-- ==== Sys2Proof/Word.lean ====
section
/-!
DEFINITION. The words of the block: a byte, and the narrow codes the spec gives names to.
The block has no machine word (10_state.md R38, 20_memory.md R80): storage and streams move single bytes.
-/

namespace Sys2Proof

/-- One byte, 8 bits (00_scope.md R12). -/
abbrev Byte := BitVec 8

end Sys2Proof
end

