-- ==== Sys2Proof/Config.lean ====
section
/-!
DEFINITION. What an implementation fixes: the parameters of 00_scope.md R9 and their conditions (R10), the ports whose values
the environment draws (10_state.md R31, R32), the types of the codec boundary (44_command_dispatch.md R235, R236), and the free
values: opaque constants with no body.
-/

namespace Sys2Proof

/-! ### The codec boundary -/

/-- The four causes a codec may answer (R235). -/
inductive ProtocolFault where
  | version
  | arity
  | atom
  | field
deriving DecidableEq, Repr, Inhabited

/-- The result of `decode : bytes → Read(t) | Fault(c)` (R235). -/
inductive Decoded where
  | read (t : Nat)
  | fault (c : ProtocolFault)
deriving DecidableEq, Repr, Inhabited

/-- The source's Response: `Ok { humidity, temperature }` or `Timeout` (00_scope.md R17, R235). -/
inductive Response where
  | ok (h : Nat) (v : Int)
  | timeout
deriving DecidableEq, Repr, Inhabited

/-- The responses of R235: 0 ≤ h ≤ 65535 and -32767 ≤ v ≤ 32767. -/
def Response.inRange : Response → Prop
  | .ok h v => h ≤ 65535 ∧ -32767 ≤ v ∧ v ≤ 32767
  | .timeout => True

/-- A codec that keeps the laws R236 asks of one substituted for the default. That decode and encode are total functions of their
argument alone, and that decode reads nothing beyond the payload, is their type. TX_LEN has 16 bits (10_state.md R61), so TX_MAX
is at most 65535. -/
structure LawfulCodec where
  decode : List Byte → Decoded
  encode : Response → List Byte
  txMax : Nat
  txMax_le : txMax ≤ 65535
  encode_fits : ∀ r, (encode r).length ≤ txMax
  encode_injective : ∀ r r', r.inRange → r'.inRange → encode r = encode r' → r = r'

/-- The Codec parameter (R9): the default ETF profile, or one substituted for it (R236; log 4). -/
inductive Codec where
  | etf
  | other
deriving DecidableEq, Repr, Inhabited

/-- ATOM_OUT_TAG (R9, R109): ATOM_EXT = 100 by default, alternative SMALL_ATOM_UTF8_EXT = 119. -/
inductive AtomOutTag where
  | atomExt
  | smallAtomUtf8Ext
deriving DecidableEq, Repr, Inhabited

/-! ### The substituted codec: any one that keeps the laws -/

/-- A codec that keeps the laws; it only shows that there is one. -/
def LawfulCodec.plainEncode : Response → List Byte
  | .ok h v =>
    [BitVec.ofNat 8 (h / 256), BitVec.ofNat 8 h, BitVec.ofNat 8 ((v + 32768).toNat / 256), BitVec.ofNat 8 (v + 32768).toNat]
  | .timeout => []

theorem LawfulCodec.plainEncode_injective (r r' : Response) (h : r.inRange) (h' : r'.inRange)
    (e : plainEncode r = plainEncode r') : r = r' := by
  cases r <;> cases r' <;> simp_all [plainEncode, Response.inRange, ← BitVec.toNat_inj]
  omega

/-- There is a codec that keeps the laws, so the constant below assumes nothing. -/
abbrev LawfulCodec.plain : Inhabited LawfulCodec where
  default :=
    { decode := fun _ => .fault .field, encode := plainEncode, txMax := 4, txMax_le := by decide,
      encode_fits := fun r => by cases r <;> simp [plainEncode], encode_injective := plainEncode_injective }

/-- Some codec that keeps the laws, none in particular. -/
opaque Config.anyCodec [Inhabited LawfulCodec] : LawfulCodec

/-- The codec substituted for the default: nothing is known of it but the laws of R236 (log 4). -/
def Config.otherCodec : LawfulCodec := @Config.anyCodec LawfulCodec.plain

/-! ### The parameters of R9, each an argument of the model (log 2, 3) -/

/-- The parameters of 00_scope.md R9, in the table's order. -/
structure Params where
  /-- TICK, in nanoseconds: the time between two steps. A step is one tick (R8), so no rule computes with it. -/
  tickNs : Nat
  wakeLowUs : Nat
  wakeHighUs : Nat
  maxEdges : Nat
  edgeCap : Nat
  preambleEdges : Nat
  pulseThreshold : Nat
  numBits : Nat
  rawBytes : Nat
  minSpacing : Nat
  lenBytes : Nat
  payloadMax : Nat
  timeW : Nat
  timeoutMax : Nat
  codec : Codec
  version : Byte
  atomOutTag : AtomOutTag
  faultExit : Byte
deriving DecidableEq, Repr

/-- The default column of R9. -/
def Params.default : Params where
  tickNs := 1000
  wakeLowUs := 18000
  wakeHighUs := 40
  maxEdges := 85
  edgeCap := 255
  preambleEdges := 4
  pulseThreshold := 16
  numBits := 40
  rawBytes := 5
  minSpacing := 2000
  lenBytes := 2
  payloadMax := 65535
  timeW := 64
  timeoutMax := 2147483647
  codec := .etf
  version := 131#8
  atomOutTag := .atomExt
  faultExit := 1#8

/-- TX_MAX under the default codec (44_command_dispatch.md R258). -/
abbrev Config.etfTxMax : Nat := 18

/-- TX_MAX, the size of TX_BUF, which the codec gives (R61, R236, R258). -/
def Params.txMax (p : Params) : Nat :=
  match p.codec with
  | .etf => Config.etfTxMax
  | .other => Config.otherCodec.txMax

/-- The conditions R10 lists (MIN_SPACING ≥ 0 and PULSE_THRESHOLD ≥ 0 by type). -/
def Params.keepsR10 (p : Params) : Bool :=
  decide (1 ≤ p.wakeLowUs) && decide (1 ≤ p.wakeHighUs) && decide (1 ≤ p.edgeCap) && decide (p.edgeCap ≤ 255) &&
    decide (1 ≤ p.maxEdges) && decide (p.numBits = 8 * p.rawBytes) && decide (p.pulseThreshold ≤ 254) &&
    decide (p.timeoutMax < 2 ^ p.timeW)

/-- A parameter set the model runs: R10's conditions, and two that other rules ask: FAULT_EXIT ≠ 0, since every fault is visible
as `exit_code` ≠ 0 (60_exceptions.md R282; log 23), and a length prefix of LEN_BYTES bytes that can say the length of every
response (43_framer.md R222, 44_command_dispatch.md R236; log 3). -/
def Params.legal (p : Params) : Bool :=
  p.keepsR10 && decide (p.faultExit ≠ 0#8) && decide (p.txMax < 256 ^ p.lenBytes)

/-! ### The input ports -/

/-- The input ports of 10_state.md R31 in one tick; a 1-bit port is a `Bool`, true being 1. -/
structure Inputs where
  rst : Bool
  initFail : Bool
  gpioIn : Bool
  inValid : Bool
  inByte : Byte
  inEof : Bool
  inErr : Bool
  outReady : Bool
  outErr : Bool
deriving DecidableEq, Repr, Inhabited

/-! ### The raw sample -/

/-- The source's RawSample (R17), the operand of the validator (41_validator.md R170): humidity high and low, temperature high
and low, checksum. -/
structure RawSample where
  r0 : Byte
  r1 : Byte
  r2 : Byte
  r3 : Byte
  r4 : Byte
deriving DecidableEq, Repr, Inhabited

/-! ### Free values: nothing in Lean can evaluate them -/

/-- R32: "Every input port is a free draw in every tick": the port values of the n-th tick where the state lists none (log 1). -/
opaque Config.freeInputs : Nat → Inputs

/-- A register whose exact next value may not fit its width. -/
inductive NarrowReg where
  | timeUs
  | deadlineMs
  | pulseCnt
deriving DecidableEq, Repr

/-- The value of a w-bit register, written in the n-th tick, whose exact value does not fit: R12, R40, "no rule defines a wrap"
(log 8). -/
opaque Config.freeValue : NarrowReg → (w : Nat) → Nat → BitVec w

/-- The two buffers whose content at reset is "any value" (93_implementation_defined.md section 2). -/
inductive Buffer where
  | rx
  | tx
deriving DecidableEq, Repr

/-- Byte i of a buffer after the reset of the n-th tick, until a rule writes it (10_state.md R59, R61, R65; log 6). -/
opaque Config.freeByte : Buffer → (n i : Nat) → Byte

/-- The validator is stated "for a 5-byte raw sample" (R170): the sample it takes from RAW when RAW_BYTES is not 5 (log 3). -/
opaque Config.freeSample : List Byte → RawSample

end Sys2Proof
end

