-- ==== Sys2Proof/Machine/Bits.lean ====
section
/-!
DEFINITION. Bit fields and byte order (00_scope.md R12, 20_memory.md R84 to R86), and the operations that write a
register of limited width.
-/

namespace Sys2Proof.Machine

/-- BE16(hi, lo) as a 16-bit pattern (R12). -/
def be16 (hi lo : Byte) : BitVec 16 := hi ++ lo

/-- BE32(b0..b3) as a 32-bit pattern (R12). -/
def be32 (b0 b1 b2 b3 : Byte) : BitVec 32 := (b0 ++ b1) ++ (b2 ++ b3)

/-- The four bytes of a 32-bit value, most significant first (R86). -/
def bytes32 (x : BitVec 32) : List Byte :=
  [x.extractLsb' 24 8, x.extractLsb' 16 8, x.extractLsb' 8 8, x.extractLsb' 0 8]

/-- The k-th byte on the stream of a length prefix of `len` bytes: big-endian (20_memory.md R84, 30_encoding.md R106). -/
def lenByte (len n k : Nat) : Byte := BitVec.ofNat 8 (n / 256 ^ (len - 1 - k))

/-- The length prefix of `len` bytes that says n. -/
def lenPrefix (len n : Nat) : List Byte := (List.range len).map (lenByte len n)

/-- The number a big-endian byte string says (R12). -/
def beNat (bytes : List Byte) : Nat := bytes.foldl (fun n b => 256 * n + b.toNat) 0

/-- A number with its byte j, counted from the least significant, replaced. -/
def setByte (n j : Nat) (b : Byte) : Nat := n / 256 ^ (j + 1) * 256 ^ (j + 1) + b.toNat * 256 ^ j + n % 256 ^ j

/-! ### Writing a register of limited width

Rules compute on unbounded integers and no rule defines a wrap (R12, R40): where the exact value does not fit, the register takes
the free value of draw n (log 8). -/

/-- `R <- v` on a register of w bits held as a number. -/
def fit (r : NarrowReg) (w v n : Nat) : Nat := if v < 2 ^ w then v else (Config.freeValue r w n).toNat

/-- `R <- R + 1` on a w-bit register. -/
def bump {w : Nat} (r : NarrowReg) (x : BitVec w) (n : Nat) : BitVec w :=
  if x.toNat + 1 < 2 ^ w then x + 1#w else Config.freeValue r w n

end Sys2Proof.Machine
end

