-- ==== Sys2Proof/Machine/Codec.lean ====
section
/-!
DEFINITION. The command codec (44_command_dispatch.md R235 to R246): the default ETF profile, whose tags are
[from general knowledge, not in source] by the spec's own mark (UNVERIFIED, log 5), and the Codec parameter (log 4).
R237 to R241 walk a cursor `pos` through the payload; here the cursor is the list of bytes still to read.
-/

namespace Sys2Proof.Machine

/-! ### Names -/

/-- `read` = 72 65 61 64 (R111). -/
def nameRead : List Byte := [0x72#8, 0x65#8, 0x61#8, 0x64#8]

/-- `ok` = 6F 6B (R112). -/
def nameOk : List Byte := [0x6F#8, 0x6B#8]

/-- `timeout` = 74 69 6D 65 6F 75 74 (R113). -/
def nameTimeout : List Byte := [0x74#8, 0x69#8, 0x6D#8, 0x65#8, 0x6F#8, 0x75#8, 0x74#8]

/-! ### Default decode -/

/-- Step 1 (R237): the version byte. -/
def decodeVersion (version : Byte) : List Byte → Except ProtocolFault (List Byte)
  | [] => .error .version
  | b :: rest => if b = version then .ok rest else .error .version

/-- Step 2 (R238): the tuple header, giving the arity. -/
def decodeTupleHeader : List Byte → Except ProtocolFault (Nat × List Byte)
  | [] => .error .field
  | tag :: r =>
    if tag = 104#8 then
      match r with
      | a :: rest => .ok (a.toNat, rest)
      | [] => .error .field
    else if tag = 105#8 then
      match r with
      | a :: b :: c :: d :: rest => .ok ((be32 a b c d).toNat, rest)
      | _ => .error .field
    else .error .field

/-- The name part of step 4 (R240): `alen` bytes that must be `read`. -/
def decodeReadName (alen : Nat) (r : List Byte) : Except ProtocolFault (List Byte) :=
  if r.length < alen then .error .field
  else if r.take alen = nameRead then .ok (r.drop alen)
  else .error .atom

/-- Step 4 (R240): the first element, the atom `read`. -/
def decodeReadAtom : List Byte → Except ProtocolFault (List Byte)
  | [] => .error .field
  | tag :: r =>
    if tag = 100#8 ∨ tag = 118#8 then
      match r with
      | a :: b :: rest => decodeReadName (be16 a b).toNat rest
      | _ => .error .field
    else if tag = 115#8 ∨ tag = 119#8 then
      match r with
      | a :: rest => decodeReadName a.toNat rest
      | [] => .error .field
    else .error .atom

/-- Step 5 (R241): the second element, the unsigned timeout. Later bytes are ignored (R242). -/
def decodeTimeout : List Byte → Except ProtocolFault (BitVec 32)
  | [] => .error .field
  | tag :: r =>
    if tag = 97#8 then
      match r with
      | b :: _ => .ok (b.setWidth 32)
      | [] => .error .field
    else if tag = 98#8 then
      match r with
      | a :: b :: c :: d :: _ => if (be32 a b c d).msb then .error .field else .ok (be32 a b c d)
      | _ => .error .field
    else .error .field

/-- Steps 1 to 5 in order, the first failing step giving the fault; step 3 (R239) is the arity test. -/
def etfDecodeSteps (version : Byte) (p : List Byte) : Except ProtocolFault (BitVec 32) :=
  match decodeVersion version p with
  | .error c => .error c
  | .ok p1 =>
    match decodeTupleHeader p1 with
    | .error c => .error c
    | .ok (arity, p2) =>
      if arity = 2 then
        match decodeReadAtom p2 with
        | .error c => .error c
        | .ok p3 => decodeTimeout p3
      else .error .arity

/-- The default profile's decode (R237 to R243). -/
def etfDecode (version : Byte) (p : List Byte) : Decoded :=
  match etfDecodeSteps version p with
  | .ok t => .read t.toNat
  | .error c => .fault c

/-! ### Default encode -/

/-- `atom(name)` of R246. -/
def etfAtom (tag : AtomOutTag) (name : List Byte) : List Byte :=
  match tag with
  | .atomExt => 100#8 :: 0#8 :: BitVec.ofNat 8 name.length :: name
  | .smallAtomUtf8Ext => 119#8 :: BitVec.ofNat 8 name.length :: name

/-- `int(x)` of R246: tag 97 for 0..255, else tag 98 and the 32-bit two's-complement pattern. -/
def etfInt (x : Int) : List Byte :=
  if 0 ≤ x ∧ x ≤ 255 then [97#8, BitVec.ofInt 8 x] else 98#8 :: bytes32 (BitVec.ofInt 32 x)

/-- The default profile's encode (R244, R245). -/
def etfEncode (version : Byte) (tag : AtomOutTag) : Response → List Byte
  | .ok h v => version :: 104#8 :: 3#8 :: (etfAtom tag nameOk ++ etfInt h ++ etfInt v)
  | .timeout => version :: 104#8 :: 1#8 :: etfAtom tag nameTimeout

/-! ### The Codec parameter -/

/-- R235: decode answers `t` with t ≤ TIMEOUT_MAX; a larger timeout is an undecodable field (log 17). -/
def boundTimeout (p : Params) : Decoded → Decoded
  | .read t => if t ≤ p.timeoutMax then .read t else .fault .field
  | .fault c => .fault c

/-- decode of the block's codec (R235). -/
def codecDecode (p : Params) (bytes : List Byte) : Decoded :=
  match p.codec with
  | .etf => boundTimeout p (etfDecode p.version bytes)
  | .other => boundTimeout p (Config.otherCodec.decode bytes)

/-- encode of the block's codec (R235). -/
def codecEncode (p : Params) (r : Response) : List Byte :=
  match p.codec with
  | .etf => etfEncode p.version p.atomOutTag r
  | .other => Config.otherCodec.encode r

end Sys2Proof.Machine
end

