-- ==== Sys2Proof/Machine/State.lean ====
section
/-!
DEFINITION. The state of the block (10_state.md R30), its reset value (R65), and the reasons a step of the model can stop.
State is plain data: a flat record, one field per register, then the model's own fields.
-/

namespace Sys2Proof.Machine

/-- Why the model stops with a fault. The block's own faults (60_exceptions.md R270) are not here: `raise Fault(c)` is a
next state in HALT. -/
inductive Fault where
  /-- An index outside RAW, RX_BUF or TX_BUF, which the spec says no rule accesses (20_memory.md R80, R81, R83; log 22). Raised by
  MemRead, MemWrite and the RAW byte select; safe. -/
  | noSuchIndex (index : Nat)
  /-- A payload longer than the length prefix can say, which is no frame (30_encoding.md R106, R115). Raised by FRAME; safe. -/
  | noSuchLength (length : Nat)
deriving DecidableEq, Repr

/-- Why the model gives a step no meaning. -/
inductive Refusal where
  /-- An instruction with no meaning yet. Raised by exec's refused arms only (there are none); safe. -/
  | notModelled (mnemonic : String)
  /-- R10: "A model refuses a configuration that breaks one of these"; and the two conditions of log 3 and 23. Raised by step;
  safe. -/
  | badParams
  /-- R45 and 93_implementation_defined.md section 2: a reserved code in DSP_STATE, SCH_STATE, RES_CAUSE or FAULT_CAUSE.
  Raised by step; safe. -/
  | reservedCode
  /-- Two operations of one tick would write one register, which R13 and R37 say never happens (log 10). Raised by step;
  safe. -/
  | doubleWrite
  /-- DSP.DECODE_OK where the codec answers a fault, or DSP.DECODE_FAULT where it answers a command: R104 does not select the
  operation, and its operand does not exist (log 11). Raised by those two meanings; no step reaches it; safe. -/
  | notSelected
deriving DecidableEq, Repr

/-- A byte buffer as a list of (index, byte), indices strictly rising; an unlisted byte is one nothing has written since
reset, and reads as a free value (log 6). -/
abbrev Memory := List Host.Cell

/-- RESP_KIND (R60): OK = 0, TIMEOUT = 1. -/
inductive RespKind where
  | ok
  | timeout
deriving DecidableEq, Repr

/-- The registers of 10_state.md R30 under their own names, then the model's own fields. A 1-bit flag is a `Bool`. A register whose
width is a parameter, or one that R10 widens with the parameters so that it never wraps, is a number; its width under the defaults
stands in its docstring, and State.Counters keeps it within its width (log 3). -/
structure State where
  /-- TIME_US (R40): TIME_W bits, default 64. -/
  timeUs : Nat
  /-- DSP_STATE (R42). -/
  dspState : BitVec 4
  /-- SCH_STATE (R43). -/
  schState : BitVec 3
  /-- DEC_STATE (R44). -/
  decState : BitVec 2
  /-- WAKE_CNT (R46): 16 bits under the defaults. -/
  wakeCnt : Nat
  /-- LAST_LEVEL (R47); true is high. -/
  lastLevel : Bool
  /-- PULSE_CNT (R48). -/
  pulseCnt : BitVec 8
  /-- EDGE_CNT (R49): 7 bits under the defaults. -/
  edgeCnt : Nat
  /-- BIT_CNT (R50): 6 bits under the defaults. -/
  bitCnt : Nat
  /-- RAW[0..RAW_BYTES-1] (R51): five bytes under the defaults. -/
  raw : List Byte
  /-- CAP_HIT (R52). -/
  capHit : Bool
  /-- RES_VALID (R53). -/
  resValid : Bool
  /-- RES_CAUSE (R53). -/
  resCause : BitVec 2
  /-- RES_HUM (R54). -/
  resHum : BitVec 16
  /-- RES_TEMP (R54), two's complement. -/
  resTemp : BitVec 16
  /-- LAST_READ_VALID (R55). -/
  lastReadValid : Bool
  /-- LAST_READ_MS (R55): TIME_W bits, default 64. -/
  lastReadMs : Nat
  /-- DEADLINE_MS (R56): TIME_W bits, default 64. -/
  deadlineMs : Nat
  /-- TIMEOUT_MS (R57): 0 to TIMEOUT_MAX, 32 bits under the defaults. -/
  timeoutMs : Nat
  /-- FR_LEN (R58): LEN_BYTES bytes, 16 bits under the defaults. -/
  frLen : Nat
  /-- FR_CNT (R58): 16 bits under the defaults. -/
  frCnt : Nat
  /-- RX_BUF (R59). -/
  rxBuf : Memory
  /-- RESP_KIND (R60). -/
  respKind : RespKind
  /-- TX_BUF (R61). -/
  txBuf : Memory
  /-- TX_LEN (R61): LEN_BYTES bytes, 16 bits under the defaults. -/
  txLen : Nat
  /-- TX_CNT (R61): 17 bits under the defaults. -/
  txCnt : Nat
  /-- EXIT_CODE (R62). -/
  exitCode : BitVec 8
  /-- FAULT_CAUSE (R62). -/
  faultCause : BitVec 4
  /-- The model's own: the elaboration-time parameters (00_scope.md R9), which no step changes (log 2). -/
  params : Params
  /-- The model's own: the input-port values of the coming ticks, this tick's first; where the list is empty every port value
  is a free draw (R32, log 1). -/
  inputs : List Inputs
  /-- The model's own: how many ticks have run, the index of the free draws (log 1). -/
  draws : Nat
  /-- The model's own: the draw the unwritten bytes of the buffers are taken from, a new one with every reset (log 6). -/
  bufDraw : Nat
  /-- The model's own: the prefix bytes FR.RX_HDR1 has taken and that are not the last; 0 but within a length prefix of more than
  the default two bytes (log 3). -/
  hdrCnt : Nat
  /-- The model's own: the request bytes accepted so far, oldest first (20_memory.md R90, log 14). -/
  accepted : List Byte
  /-- The model's own: the response bytes emitted so far, oldest first (20_memory.md R90, log 14). -/
  emitted : List Byte
deriving DecidableEq, Repr

/-- The reset state of R65 in an elaboration with parameters p; the buffers with nothing written, so that every byte of them is a
free value (log 6); the model's own fields at the values of log 1, 3, 6 and 14. -/
def State.resetOf (p : Params) : State where
  timeUs := 0
  dspState := 0
  schState := 0
  decState := 0
  wakeCnt := 0
  lastLevel := true
  pulseCnt := 0
  edgeCnt := 0
  bitCnt := 0
  raw := List.replicate p.rawBytes 0
  capHit := false
  resValid := false
  resCause := 0
  resHum := 0
  resTemp := 0
  lastReadValid := false
  lastReadMs := 0
  deadlineMs := 0
  timeoutMs := 0
  frLen := 0
  frCnt := 0
  rxBuf := []
  respKind := .ok
  txBuf := []
  txLen := 0
  txCnt := 0
  exitCode := 0
  faultCause := 0
  params := p
  inputs := []
  draws := 0
  bufDraw := 0
  hdrCnt := 0
  accepted := []
  emitted := []

/-- The reset state under the default parameters (log 2). -/
def State.reset : State := State.resetOf Params.default

end Sys2Proof.Machine
end

