-- ==== Sys2Proof/Machine/Ops.lean ====
section
/-!
DEFINITION. The named operations the meanings share: the sequencer codes, MemRead and MemWrite (00_scope.md R13),
fault entry `raise Fault(c)` (60_exceptions.md R275) and reset (70_reset_and_hazards.md R300).
No fault returns (R279): reset is the only way out of HALT, and stands here in the place of a return from exception.
-/

namespace Sys2Proof.Machine

/-! ### Sequencer state codes (30_encoding.md R101 to R103) -/

abbrev dspINIT : BitVec 4 := 0#4
abbrev dspRXHDR0 : BitVec 4 := 1#4
abbrev dspRXHDR1 : BitVec 4 := 2#4
abbrev dspRXPAY : BitVec 4 := 3#4
abbrev dspDECODE : BitVec 4 := 4#4
abbrev dspEXEC : BitVec 4 := 5#4
abbrev dspENCODE : BitVec 4 := 6#4
abbrev dspTX : BitVec 4 := 7#4
abbrev dspHALT : BitVec 4 := 8#4

abbrev schIDLE : BitVec 3 := 0#3
abbrev schSTART : BitVec 3 := 1#3
abbrev schSPACE : BitVec 3 := 2#3
abbrev schATTEMPT : BitVec 3 := 3#3
abbrev schCHECK : BitVec 3 := 4#3

abbrev decIDLE : BitVec 2 := 0#2
abbrev decWAKELOW : BitVec 2 := 1#2
abbrev decWAKEHIGH : BitVec 2 := 2#2
abbrev decEDGE : BitVec 2 := 3#2

/-- RES_CAUSE codes (10_state.md R53). -/
abbrev resNONE : BitVec 2 := 0#2
abbrev resNOBITS : BitVec 2 := 1#2
abbrev resCHECKSUM : BitVec 2 := 2#2

/-! ### Fault causes (60_exceptions.md R277) -/

/-- The causes of R277, NONE among them. -/
inductive Cause where
  | none
  | init
  | protocol (c : ProtocolFault)
  | ioRx
  | ioTx
deriving DecidableEq, Repr

/-- FAULT_CAUSE codes (R277). -/
def causeCode : Cause → BitVec 4
  | .none => 0#4
  | .init => 1#4
  | .protocol .version => 2#4
  | .protocol .arity => 3#4
  | .protocol .atom => 4#4
  | .protocol .field => 5#4
  | .ioRx => 6#4
  | .ioTx => 7#4

/-! ### Buffers -/

/-- The byte at an index, none where nothing has written it. -/
def Memory.read : Memory → Nat → Option Byte
  | [], _ => none
  | (a, v) :: m, i => if i = a then some v else Memory.read m i

/-- The buffer with one byte written, the indices still rising. -/
def Memory.write : Memory → Nat → Byte → Memory
  | [], i, b => [(i, b)]
  | (a, v) :: m, i, b =>
    if i < a then (i, b) :: (a, v) :: m
    else if i = a then (i, b) :: m
    else (a, v) :: Memory.write m i b

/-- The canonical form: indices strictly rising, each inside a buffer of `size` bytes. -/
def Memory.wf (size : Nat) (m : Memory) : Bool :=
  decide ((m.map Prod.fst).Pairwise (· < ·)) && m.all (fun c => decide (c.1 < size))

/-- The byte `MemRead(BUF, i, 1)` answers inside the buffer: the written one, else the free one (log 6). -/
def Memory.byte (free : Nat → Byte) (m : Memory) (i : Nat) : Byte := (m.read i).getD (free i)

/-- `MemRead(BUF, i, 1)` on a buffer of `size` bytes (R13). -/
def memRead (size : Nat) (free : Nat → Byte) (m : Memory) (i : Nat) : Except Fault Byte :=
  if i < size then .ok (m.byte free i) else .error (.noSuchIndex i)

/-- `MemWrite(BUF, i, 1, b)` on a buffer of `size` bytes (R13). -/
def memWrite (size : Nat) (m : Memory) (i : Nat) (b : Byte) : Except Fault Memory :=
  if i < size then .ok (m.write i b) else .error (.noSuchIndex i)

/-- The `n` bytes from index `i` up. -/
def memReadRange (size : Nat) (free : Nat → Byte) (m : Memory) : Nat → Nat → Except Fault (List Byte)
  | _, 0 => .ok []
  | i, n + 1 =>
    match memRead size free m i with
    | .error f => .error f
    | .ok b =>
      match memReadRange size free m (i + 1) n with
      | .error f => .error f
      | .ok bs => .ok (b :: bs)

/-- A byte string written from index `i` up. -/
def memWriteRange (size : Nat) : Memory → Nat → List Byte → Except Fault Memory
  | m, _, [] => .ok m
  | m, i, b :: bs =>
    match memWrite size m i b with
    | .error f => .error f
    | .ok m' => memWriteRange size m' (i + 1) bs

/-! ### Taking a fault, stopping, reset -/

/-- Fault entry, `raise Fault(c)` (R275): it writes these three registers and nothing else (R273). -/
def State.raiseFault (s : State) (c : Cause) : State :=
  { s with dspState := dspHALT, exitCode := s.params.faultExit, faultCause := causeCode c }

/-- The clean stop of 43_framer.md R214. -/
def State.stopClean (s : State) : State :=
  { s with dspState := dspHALT, exitCode := 0#8, faultCause := causeCode .none }

/-- A tick with `rst` = 1 (R300): the reset state whatever the current one. The model's own fields go on: the parameters
stand, the bytes already moved stay moved (R301), the tick's inputs are used up, and the buffers take new free bytes (log 6, 19). -/
def State.resetTick (s : State) : State :=
  { State.resetOf s.params with
    inputs := s.inputs.tail, draws := s.draws + 1, bufDraw := s.draws + 1, accepted := s.accepted, emitted := s.emitted }

/-! ### Outcomes -/

/-- Go on with a result, or stop with its fault. -/
def orFault {α : Type} (r : Except Fault α) (k : α → Host.Outcome State Fault Refusal) : Host.Outcome State Fault Refusal :=
  match r with
  | .ok a => k a
  | .error f => .fault f

end Sys2Proof.Machine
end

