-- ==== Sys2Proof/Machine/Operands.lean ====
section
/-!
DEFINITION. The operands of the operations: the input ports of the tick (10_state.md R31, R32), the millisecond clock (R41),
operand assembly (30_encoding.md R114), the validator (41_validator.md R170 to R174) and the codec's result (R249).
-/

namespace Sys2Proof.Machine

/-- The input-port values of this tick: the first listed, or a free draw (R32, log 1). -/
def State.pins (s : State) : Inputs :=
  match s.inputs with
  | i :: _ => i
  | [] => Config.freeInputs s.draws

/-- `now_ms = TIME_US div 1000` (R41). -/
def State.nowMs (s : State) : Nat := s.timeUs / 1000

/-- The time since reset, in nanoseconds: TIME_US ticks of TICK each (R40; 70_reset_and_hazards.md R311). -/
def State.elapsedNs (s : State) : Nat := s.timeUs * s.params.tickNs

/-- The bit of a qualifying falling edge: 1 when the pulse width exceeds PULSE_THRESHOLD (R151). -/
def pulseBit (p : Params) (w : BitVec 8) : Bool := decide (p.pulseThreshold < w.toNat)

/-- `((RAW[k] << 1) | bit)[7:0]` (R151). -/
def shiftInBit (b : Byte) (bit : Bool) : Byte := (b <<< 1) ||| (BitVec.ofBool bit).setWidth 8

/-! ### The validator -/

/-- The five-byte sample the validator takes from RAW (R170). The spec states none for a RAW_BYTES other than 5: a free value
(log 3). -/
def sampleOf : List Byte → RawSample
  | [r0, r1, r2, r3, r4] => ⟨r0, r1, r2, r3, r4⟩
  | raw => Config.freeSample raw

/-- `checksum_ok(r)` (R171): the sum on unbounded integers, truncated to its low 8 bits. -/
def checksumOk (r : RawSample) : Bool :=
  decide (r.r4.toNat = (r.r0.toNat + r.r1.toNat + r.r2.toNat + r.r3.toNat) % 256)

/-- `humidity(r)` (R172). -/
def humidity (r : RawSample) : BitVec 16 := be16 r.r0 r.r1

/-- `mag(r)` (R173): bit 7 of r2 is no part of the magnitude. -/
def tempMagnitude (r : RawSample) : Nat := (be16 (r.r2 &&& 0x7F#8) r.r3).toNat

/-- `temperature(r)` (R174): sign-magnitude, the sign in r2[7]. -/
def temperature (r : RawSample) : Int :=
  if r.r2.getLsbD 7 then -(tempMagnitude r : Int) else (tempMagnitude r : Int)

/-- `int16(v)` (R12): the 16-bit two's-complement pattern. -/
def int16 (v : Int) : BitVec 16 := BitVec.ofInt 16 v

/-! ### The payload and the codec's result -/

/-- RX_BUF[0 .. FR_LEN - 1], the payload the codec reads (R81). -/
def State.payload (s : State) : Except Fault (List Byte) :=
  memReadRange s.params.payloadMax (Config.freeByte .rx s.bufDraw) s.rxBuf 0 s.frLen

/-- `decode(RX_BUF[0 .. FR_LEN - 1])` (R249, R250). -/
def State.codecResult (s : State) : Except Fault Decoded :=
  match s.payload with
  | .ok p => .ok (codecDecode s.params p)
  | .error f => .error f

end Sys2Proof.Machine
end

