-- ==== Sys2Proof/Machine/Flags.lean ====
section
/-!
DEFINITION. The condition bits of opcode_table.json's vectors, each a function of the state and the tick's inputs
(30_encoding.md R104). The block has no condition codes (10_state.md R63); its 1-bit status registers are fields of State.
-/

namespace Sys2Proof.Machine

/-- w: LAST_READ_VALID = 1 and now_ms - LAST_READ_MS < MIN_SPACING (R188), on integers. -/
def State.spacingWait (s : State) : Bool :=
  s.lastReadValid && decide ((s.nowMs : Int) - (s.lastReadMs : Int) < (s.params.minSpacing : Int))

/-- d: now_ms ≥ DEADLINE_MS (R192). -/
def State.deadlinePassed (s : State) : Bool := decide (s.deadlineMs ≤ s.nowMs)

/-- e: the sample differs from LAST_LEVEL, an edge (R146). -/
def State.isEdge (s : State) : Bool := s.pins.gpioIn != s.lastLevel

/-- c: PULSE_CNT + 1 = EDGE_CAP (R148). -/
def State.atCap (s : State) : Bool := decide (s.pulseCnt.toNat + 1 = s.params.edgeCap)

/-- p: EDGE_CNT < PREAMBLE_EDGES (R150). -/
def State.inPreamble (s : State) : Bool := decide (s.edgeCnt < s.params.preambleEdges)

/-- b: BIT_CNT < NUM_BITS (R151). -/
def State.wantsBit (s : State) : Bool := decide (s.bitCnt < s.params.numBits)

/-- The edge of this tick is the MAX_EDGES-th (R155). -/
def State.lastEdge (s : State) : Bool := decide (s.edgeCnt + 1 = s.params.maxEdges)

/-- The codec answers a command: the `cond` of DSP.DECODE_OK's row. -/
def State.hasCommand (s : State) : Bool :=
  match s.codecResult with
  | .ok (.read _) => true
  | _ => false

/-- No register holds a reserved code (R45; 10_state.md R53; 60_exceptions.md R277). -/
def State.codesLegal (s : State) : Bool :=
  decide (s.dspState.toNat ≤ 8) && decide (s.schState.toNat ≤ 4) && decide (s.resCause.toNat ≤ 2) &&
    decide (s.faultCause.toNat ≤ 7)

end Sys2Proof.Machine
end

