-- ==== Sys2Proof/Machine/Attempt.lean ====
section
/-!
DEFINITION. The two shared actions of a decode attempt: its initialisation (40_edge_decoder.md R142) and `conclude` (R152),
with the edge bookkeeping every edge operation performs (R150, R151, R153 to R155).
-/

namespace Sys2Proof.Machine

/-- Attempt initialisation (R142): it clears the datapath and leaves the previous attempt's result (RES_*) alone. -/
def State.initAttempt (s : State) : State :=
  { s with
    decState := decWAKELOW, wakeCnt := 0, lastLevel := true, pulseCnt := 0#8, edgeCnt := 0, bitCnt := 0,
    raw := List.replicate s.params.rawBytes 0, capHit := false }

/-- The result part of `conclude` (R152): fewer than NUM_BITS bits, a wrong checksum, or a Reading. -/
def State.recordResult (s : State) : State :=
  if s.bitCnt < s.params.numBits then { s with resValid := false, resCause := resNOBITS }
  else if checksumOk (sampleOf s.raw) then
    { s with
      resValid := true, resCause := resNONE, resHum := humidity (sampleOf s.raw),
      resTemp := int16 (temperature (sampleOf s.raw)) }
  else { s with resValid := false, resCause := resCHECKSUM }

/-- `conclude` (R152), on the state whose BIT_CNT and RAW this tick's operation has written: the result, the time of the
conclusion, and the hand-off to the scheduler. -/
def State.conclude (s : State) : State :=
  { s.recordResult with
    lastReadMs := s.nowMs, lastReadValid := true, decState := decIDLE, schState := schCHECK }

/-- What every edge operation does: count the edge, take the new level as the reference, start a new width; and conclude
when the edge is the MAX_EDGES-th (R155). -/
def State.takeEdge (s : State) (level : Bool) : State :=
  let t := { s with edgeCnt := s.edgeCnt + 1, lastLevel := level, pulseCnt := 0#8 }
  if s.lastEdge then t.conclude else t

end Sys2Proof.Machine
end

