-- ==== Sys2Proof/Machine/Decoder.lean ====
section
/-!
DEFINITION. The meanings of the nine edge decoder operations (40_edge_decoder.md R141 to R155).
-/

namespace Sys2Proof.Machine

/-- DEC.IDLE (R141): hold. -/
def execDecIdle (s : State) : Host.Outcome State Fault Refusal := .next s

/-- A wake phase of `len` ticks that ends in the decoder state `nextCode` (R143, R144). -/
def State.wakeTick (s : State) (len : Nat) (nextCode : BitVec 2) : State :=
  if s.wakeCnt + 1 = len then { s with decState := nextCode, wakeCnt := 0 }
  else { s with wakeCnt := s.wakeCnt + 1 }

/-- DEC.WAKE_LOW (R143). -/
def execDecWakeLow (s : State) : Host.Outcome State Fault Refusal := .next (s.wakeTick s.params.wakeLowUs decWAKEHIGH)

/-- DEC.WAKE_HIGH (R144). -/
def execDecWakeHigh (s : State) : Host.Outcome State Fault Refusal := .next (s.wakeTick s.params.wakeHighUs decEDGE)

/-- DEC.EDGE_CAP (R148): the EDGE_CAP-th unchanged sample concludes, BIT_CNT and RAW unchanged. -/
def execDecEdgeCap (s : State) : Host.Outcome State Fault Refusal :=
  .next { s with pulseCnt := BitVec.ofNat 8 s.params.edgeCap, capHit := true }.conclude

/-- DEC.EDGE_HOLD (R147). -/
def execDecEdgeHold (s : State) : Host.Outcome State Fault Refusal := .next { s with pulseCnt := bump .pulseCnt s.pulseCnt s.draws }

/-- DEC.EDGE_PRE (R150): a preamble edge; its width is discarded. -/
def execDecEdgePre (s : State) : Host.Outcome State Fault Refusal := .next (s.takeEdge s.pins.gpioIn)

/-- RAW and BIT_CNT with one bit accumulated in the byte BIT_CNT div 8 selects, none where it selects no byte (R151). -/
def State.accumulate (s : State) : Option State :=
  match s.raw[s.bitCnt / 8]? with
  | none => none
  | some b =>
    some { s with
      raw := s.raw.set (s.bitCnt / 8) (shiftInBit b (pulseBit s.params s.pulseCnt)), bitCnt := s.bitCnt + 1 }

/-- DEC.EDGE_BIT (R151). -/
def execDecEdgeBit (s : State) : Host.Outcome State Fault Refusal :=
  match s.accumulate with
  | some t => .next (t.takeEdge false)
  | none => .fault (.noSuchIndex (s.bitCnt / 8))

/-- DEC.EDGE_EXCESS (R154): a qualifying edge after the last bit accumulates nothing. -/
def execDecEdgeExcess (s : State) : Host.Outcome State Fault Refusal := .next (s.takeEdge false)

/-- DEC.EDGE_RISE (R153): the low width is discarded. -/
def execDecEdgeRise (s : State) : Host.Outcome State Fault Refusal := .next (s.takeEdge true)

end Sys2Proof.Machine
end

