-- ==== Sys2Proof/Machine/Dispatcher.lean ====
section
/-!
DEFINITION. The meanings of the seven dispatcher operations (44_command_dispatch.md R247 to R253).
-/

namespace Sys2Proof.Machine

/-- DSP.INIT_FAIL (R248). -/
def execDspInitFail (s : State) : Host.Outcome State Fault Refusal := .next (s.raiseFault .init)

/-- DSP.INIT_OK (R247). -/
def execDspInitOk (s : State) : Host.Outcome State Fault Refusal := .next { s with dspState := dspRXHDR0 }

/-- A READ command goes to the scheduler (R249). -/
def State.startRead (s : State) (t : Nat) : State :=
  { s with timeoutMs := t, dspState := dspEXEC, schState := schSTART }

/-- DSP.DECODE_OK (R249): its operand t is the codec's command; where the codec answers a fault the operation is not
selected (log 11). -/
def execDspDecodeOk (s : State) : Host.Outcome State Fault Refusal :=
  orFault s.codecResult fun
    | .read t => .next (s.startRead t)
    | .fault _ => .refused .notSelected

/-- DSP.DECODE_FAULT (R250): its operand c is the codec's fault; where the codec answers a command the operation is not
selected (log 11). -/
def execDspDecodeFault (s : State) : Host.Outcome State Fault Refusal :=
  orFault s.codecResult fun
    | .fault c => .next (s.raiseFault (.protocol c))
    | .read _ => .refused .notSelected

/-- DSP.EXEC (R251): hold. -/
def execDspExec (s : State) : Host.Outcome State Fault Refusal := .next s

/-- A response placed in TX_BUF, ready for its first frame byte (R252). Bytes past its end keep their values. -/
def State.sendResponse (s : State) (r : Response) : Host.Outcome State Fault Refusal :=
  orFault (memWriteRange s.params.txMax s.txBuf 0 (codecEncode s.params r)) fun m =>
    .next { s with
      txBuf := m, txLen := (codecEncode s.params r).length, txCnt := 0, dspState := dspTX }

/-- The response RESP_KIND names (R252): RES_HUM and RES_TEMP are read only for OK. -/
def State.response (s : State) : Response :=
  match s.respKind with
  | .ok => .ok s.resHum.toNat s.resTemp.toInt
  | .timeout => .timeout

/-- DSP.ENCODE (R252). -/
def execDspEncode (s : State) : Host.Outcome State Fault Refusal := s.sendResponse s.response

/-- DSP.HALT (R253): hold; no input leaves HALT. -/
def execDspHalt (s : State) : Host.Outcome State Fault Refusal := .next s

end Sys2Proof.Machine
end

