-- ==== Sys2Proof/Machine/Outputs.lean ====
section
/-!
DEFINITION. The output ports, functions of the state alone (10_state.md R33 to R35, 70_reset_and_hazards.md R306).
-/

namespace Sys2Proof.Machine

/-- `gpio_oe` (R33). -/
def State.gpioOe (s : State) : Bool := decide (s.decState = decWAKELOW ∨ s.decState = decWAKEHIGH)

/-- `gpio_out` (R33). -/
def State.gpioOut (s : State) : Bool := decide (s.decState = decWAKEHIGH)

/-- `in_ready` (R34). -/
def State.inReady (s : State) : Bool :=
  decide (s.dspState = dspRXHDR0 ∨ s.dspState = dspRXHDR1 ∨ s.dspState = dspRXPAY)

/-- `out_valid` (R34). -/
def State.outValid (s : State) : Bool := decide (s.dspState = dspTX)

/-- The byte of the response frame that TX_CNT selects: the LEN_BYTES bytes of the length, most significant first, then
MemRead(TX_BUF, TX_CNT - LEN_BYTES, 1) (R34, which writes out the two bytes of the default). -/
def State.txByte (s : State) : Except Fault Byte :=
  if s.txCnt < s.params.lenBytes then .ok (lenByte s.params.lenBytes s.txLen s.txCnt)
  else memRead s.params.txMax (Config.freeByte .tx s.bufDraw) s.txBuf (s.txCnt - s.params.lenBytes)

/-- `out_byte` (R34): 0 outside TX. -/
def State.outByte (s : State) : Except Fault Byte := if s.dspState = dspTX then s.txByte else .ok 0#8

/-- `halted` (R35). -/
def State.halted (s : State) : Bool := decide (s.dspState = dspHALT)

/-- The output ports of R31 in one tick. -/
structure Outputs where
  gpioOe : Bool
  gpioOut : Bool
  inReady : Bool
  outValid : Bool
  outByte : Except Fault Byte
  halted : Bool
  exitCode : BitVec 8
  faultCause : BitVec 4

/-- Every output port (R33 to R35). -/
def State.outputs (s : State) : Outputs where
  gpioOe := s.gpioOe
  gpioOut := s.gpioOut
  inReady := s.inReady
  outValid := s.outValid
  outByte := s.outByte
  halted := s.halted
  exitCode := s.exitCode
  faultCause := s.faultCause

end Sys2Proof.Machine
end

