-- ==== Sys2Proof/Syntax.lean ====
section
/-!
DEFINITION. The 37 rows of opcode_table.json: the operations of the three sequencers (30_encoding.md R104) and the wire
formats (R106, R111 to R113), one constructor each. An operand is what the row's encoding carries.
-/

namespace Sys2Proof

/-- The field nn of FR.RX_ERR, FR.RX_EOF and FR.RX_STALL: 01 = RX_HDR0, 10 = RX_HDR1, 11 = RX_PAY. -/
inductive RxState where
  | hdr0
  | hdr1
  | pay
deriving DecidableEq, Repr

/-- One constructor per row of opcode_table.json, in the table's order. -/
inductive Instr where
  | dspInitFail
  | dspInitOk
  | frRxErr (nn : RxState)
  | frRxHdr0
  | frRxHdr1
  | frRxPay
  | frRxEof (nn : RxState)
  | frRxStall (nn : RxState)
  | dspDecodeOk
  | dspDecodeFault
  | dspExec
  | dspEncode
  | frTxErr
  | frTxByte
  | frTxStall
  | dspHalt
  | schIdle
  | schStart
  | schSpaceWait
  | schSpaceGo
  | schAttempt
  | schCheckOk
  | schCheckTimeout
  | schCheckRetry
  | decIdle
  | decWakeLow
  | decWakeHigh
  | decEdgeCap
  | decEdgeHold
  | decEdgePre
  | decEdgeBit
  | decEdgeExcess
  | decEdgeRise
  /-- FRAME: the payload P*, of length L (R106). -/
  | frame (p : List Byte)
  /-- MSG.READ: the timeout t in milliseconds (R111). -/
  | msgRead (t : BitVec 32)
  /-- MSG.OK: humidity, unsigned, and temperature, two's complement (R112). -/
  | msgOk (h v : BitVec 16)
  | msgTimeout
deriving DecidableEq, Repr

end Sys2Proof
end

