-- ==== Sys2Proof/Machine/Framer.lean ====
section
/-!
DEFINITION. The meanings of the nine framer operations (43_framer.md R211 to R221).
-/

namespace Sys2Proof.Machine

/-- The request byte of the tick is consumed (20_memory.md R90). -/
def State.acceptByte (s : State) : State := { s with accepted := s.accepted ++ [s.pins.inByte] }

/-- FR.RX_ERR (R215): an I/O fault; the byte offered in the same tick is not accepted. In every RX state alike. -/
def execFrRxErr (_nn : Sys2Proof.RxState) (s : State) : Host.Outcome State Fault Refusal := .next (s.raiseFault .ioRx)

/-- The length prefix is complete: an empty payload goes straight to DECODE (R212, R217). -/
def State.startPayload (s : State) (n : Nat) : State :=
  { s with frLen := n, frCnt := 0, hdrCnt := 0, dspState := if n = 0 then dspDECODE else dspRXPAY }

/-- FR.RX_HDR0 (R211): the first prefix byte is the most significant byte of FR_LEN, the other bytes keep their values. A prefix of
one byte is complete with it (R210; log 3). -/
def execFrRxHdr0 (s : State) : Host.Outcome State Fault Refusal :=
  let n := s.pins.inByte.toNat * 256 ^ (s.params.lenBytes - 1) + s.frLen % 256 ^ (s.params.lenBytes - 1)
  .next (if s.params.lenBytes ≤ 1 then s.acceptByte.startPayload n
    else { s.acceptByte with frLen := n, hdrCnt := 0, dspState := dspRXHDR1 })

/-- FR.RX_HDR1 (R212): the next prefix byte, under the defaults the last one, FR_LEN[7:0]. A prefix of more than two bytes stays in
RX_HDR1 for its later bytes (R210; log 3). -/
def execFrRxHdr1 (s : State) : Host.Outcome State Fault Refusal :=
  let j := s.params.lenBytes - 2 - s.hdrCnt
  let n := setByte s.frLen j s.pins.inByte
  .next (if j = 0 then s.acceptByte.startPayload n else { s.acceptByte with frLen := n, hdrCnt := s.hdrCnt + 1 })

/-- FR.RX_PAY (R213). -/
def execFrRxPay (s : State) : Host.Outcome State Fault Refusal :=
  orFault (memWrite s.params.payloadMax s.rxBuf s.frCnt s.pins.inByte) fun m =>
    .next { s.acceptByte with
      rxBuf := m, frCnt := s.frCnt + 1, dspState := if s.frCnt + 1 = s.frLen then dspDECODE else s.dspState }

/-- FR.RX_EOF (R214): the clean stop, at any point of a frame. -/
def execFrRxEof (_nn : Sys2Proof.RxState) (s : State) : Host.Outcome State Fault Refusal := .next s.stopClean

/-- FR.RX_STALL (R216): hold. -/
def execFrRxStall (_nn : Sys2Proof.RxState) (s : State) : Host.Outcome State Fault Refusal := .next s

/-- FR.TX_ERR (R221): an I/O fault; no byte is emitted. -/
def execFrTxErr (s : State) : Host.Outcome State Fault Refusal := .next (s.raiseFault .ioTx)

/-- FR.TX_BYTE (R219): the byte TX_CNT selects is emitted; after the last one the next command may come. -/
def execFrTxByte (s : State) : Host.Outcome State Fault Refusal :=
  orFault s.txByte fun b =>
    .next { s with
      emitted := s.emitted ++ [b], txCnt := s.txCnt + 1,
      dspState := if s.txCnt + 1 = s.txLen + s.params.lenBytes then dspRXHDR0 else s.dspState }

/-- FR.TX_STALL (R220): hold. -/
def execFrTxStall (s : State) : Host.Outcome State Fault Refusal := .next s

end Sys2Proof.Machine
end

