-- ==== Sys2Proof/Machine/Scheduler.lean ====
section
/-!
DEFINITION. The meanings of the eight read scheduler operations (42_read_scheduler.md R186 to R193).
-/

namespace Sys2Proof.Machine

/-- SCH.IDLE (R186): hold. -/
def execSchIdle (s : State) : Host.Outcome State Fault Refusal := .next s

/-- SCH.START (R187): the absolute deadline. Under the defaults it never overflows (R200). -/
def execSchStart (s : State) : Host.Outcome State Fault Refusal :=
  .next { s with deadlineMs := fit .deadlineMs s.params.timeW (s.nowMs + s.timeoutMs) s.draws, schState := schSPACE }

/-- SCH.SPACE_WAIT (R188): hold. -/
def execSchSpaceWait (s : State) : Host.Outcome State Fault Refusal := .next s

/-- SCH.SPACE_GO (R189): start an attempt. At the earliest it runs one tick after SCH.START (R187), so with MIN_SPACING = 0 a call can
take one tick more than the bound of R197; the model follows the operation rules (log 26). -/
def execSchSpaceGo (s : State) : Host.Outcome State Fault Refusal := .next { s.initAttempt with schState := schATTEMPT }

/-- SCH.ATTEMPT (R190): hold. -/
def execSchAttempt (s : State) : Host.Outcome State Fault Refusal := .next s

/-- End the call with a response and hand it to the dispatcher (R191, R192). -/
def State.respond (s : State) (k : RespKind) : State :=
  { s with respKind := k, schState := schIDLE, dspState := dspENCODE }

/-- SCH.CHECK_OK (R191). -/
def execSchCheckOk (s : State) : Host.Outcome State Fault Refusal := .next (s.respond .ok)

/-- SCH.CHECK_TIMEOUT (R192). -/
def execSchCheckTimeout (s : State) : Host.Outcome State Fault Refusal := .next (s.respond .timeout)

/-- SCH.CHECK_RETRY (R193). -/
def execSchCheckRetry (s : State) : Host.Outcome State Fault Refusal := .next { s with schState := schSPACE }

end Sys2Proof.Machine
end

