-- ==== Sys2Proof/WellFormed.lean ====
section
/-!
DEFINITION. The operand values the encodings admit: R106 (a payload of at most 65535 bytes), R111 (a timeout of at most
2^31 - 1), R235 (a temperature of -32767 to 32767).
-/

namespace Sys2Proof

/-- An instruction whose operands its encoding admits. -/
def Instr.wellFormed : Instr → Bool
  | .frame p => decide (p.length ≤ 65535)
  | .msgRead t => decide (t.toNat ≤ 2147483647)
  | .msgOk _ v => decide (v ≠ 0x8000#16)
  | .dspInitFail | .dspInitOk | .frRxErr _ | .frRxHdr0 | .frRxHdr1 | .frRxPay | .frRxEof _ | .frRxStall _
  | .dspDecodeOk | .dspDecodeFault | .dspExec | .dspEncode | .frTxErr | .frTxByte | .frTxStall | .dspHalt
  | .schIdle | .schStart | .schSpaceWait | .schSpaceGo | .schAttempt | .schCheckOk | .schCheckTimeout | .schCheckRetry
  | .decIdle | .decWakeLow | .decWakeHigh | .decEdgeCap | .decEdgeHold | .decEdgePre | .decEdgeBit | .decEdgeExcess
  | .decEdgeRise | .msgTimeout => true

end Sys2Proof
end

