-- ==== Sys2Proof/Decode.lean ====
section
/-!
DEFINITION. Decoding and encoding. An operation is identified by (sequencer, state code, condition) (30_encoding.md R100);
opcode_table.json writes that as a bit vector per sequencer, and the wire formats as byte strings. `decode` reads the
instruction of an encoding or rejects it by name; `encode` writes the encoding of an instruction from the same table.
-/

namespace Sys2Proof

open Sys2Proof.Machine (be16 beNat lenPrefix bytes32 etfDecode etfInt nameRead nameOk nameTimeout)

/-- One encoding of opcode_table.json. -/
inductive Encoded where
  /-- Format DSP: DSP_STATE[3:0] init_fail in_err in_valid in_eof out_err out_ready, bit 9 down to bit 0, and the row's
  `cond`: whether the codec answers a command (it tells DSP.DECODE_OK from DSP.DECODE_FAULT). -/
  | dsp (v : BitVec 10) (command : Bool)
  /-- Format SCH: SCH_STATE[2:0] w v d, bit 5 down to bit 0. -/
  | sch (v : BitVec 6)
  /-- Format DEC: DEC_STATE[1:0] e c p s b, bit 6 down to bit 0. -/
  | dec (v : BitVec 7)
  /-- Format WIRE, a frame: the bytes of the stream in order (R106). -/
  | frame (bytes : List Byte)
  /-- Format WIRE, a message: the bytes of a payload (R107). -/
  | message (bytes : List Byte)
deriving DecidableEq, Repr

/-- Why an encoding is rejected. -/
inductive Reject where
  /-- DSP_STATE codes 9 to 15 (R101, R105). -/
  | reservedDspState
  /-- SCH_STATE codes 5 to 7 (R102, R105). -/
  | reservedSchState
  /-- Fewer bytes than the length prefix says, or none. -/
  | shortFrame
  /-- More bytes than the length prefix says. -/
  | longFrame
  /-- A payload that is no MSG.READ, with the cause of R243, nor the canonical MSG.OK or MSG.TIMEOUT. -/
  | badMessage (c : ProtocolFault)
deriving DecidableEq, Repr

/-! ### The three sequencers' vectors -/

/-- The rows of format DSP (R104): the state code, then the condition bits in the table's order. -/
def decodeDsp (v : BitVec 10) (command : Bool) : Except Reject Instr :=
  let initFail := v.getLsbD 5
  let inErr := v.getLsbD 4
  let inValid := v.getLsbD 3
  let inEof := v.getLsbD 2
  let outErr := v.getLsbD 1
  let outReady := v.getLsbD 0
  let rx (nn : RxState) (take : Instr) : Except Reject Instr :=
    .ok (if inErr then .frRxErr nn else if inValid then take else if inEof then .frRxEof nn else .frRxStall nn)
  match (v.extractLsb' 6 4).toNat with
  | 0 => .ok (if initFail then .dspInitFail else .dspInitOk)
  | 1 => rx .hdr0 .frRxHdr0
  | 2 => rx .hdr1 .frRxHdr1
  | 3 => rx .pay .frRxPay
  | 4 => .ok (if command then .dspDecodeOk else .dspDecodeFault)
  | 5 => .ok .dspExec
  | 6 => .ok .dspEncode
  | 7 => .ok (if outErr then .frTxErr else if outReady then .frTxByte else .frTxStall)
  | 8 => .ok .dspHalt
  | _ => .error .reservedDspState

/-- The rows of format SCH (R104). -/
def decodeSch (v : BitVec 6) : Except Reject Instr :=
  match (v.extractLsb' 3 3).toNat with
  | 0 => .ok .schIdle
  | 1 => .ok .schStart
  | 2 => .ok (if v.getLsbD 2 then .schSpaceWait else .schSpaceGo)
  | 3 => .ok .schAttempt
  | 4 => .ok (if v.getLsbD 1 then .schCheckOk else if v.getLsbD 0 then .schCheckTimeout else .schCheckRetry)
  | _ => .error .reservedSchState

/-- The rows of format DEC (R104); no code is reserved (R44). -/
def decodeDec (v : BitVec 7) : Instr :=
  let e := v.getLsbD 4
  let c := v.getLsbD 3
  let p := v.getLsbD 2
  let s := v.getLsbD 1
  let b := v.getLsbD 0
  match (v.extractLsb' 5 2).toNat with
  | 0 => .decIdle
  | 1 => .decWakeLow
  | 2 => .decWakeHigh
  | _ =>
    if e then
      if p then .decEdgePre else if s then .decEdgeRise else if b then .decEdgeBit else .decEdgeExcess
    else if c then .decEdgeCap
    else .decEdgeHold

/-! ### The wire formats -/

/-- R106, R210: the payload of the first frame of a byte stream, its length prefix of `len` bytes, and the bytes after it. -/
def splitFrame (len : Nat) (bytes : List Byte) : Option (List Byte × List Byte) :=
  let n := beNat (bytes.take len)
  if len + n ≤ bytes.length then some ((bytes.drop len).take n, (bytes.drop len).drop n) else none

/-- R106, R222: `write_frame(p)`, the `len` bytes of the length, most significant first, and the payload. -/
def frameBytes (len : Nat) (p : List Byte) : List Byte := lenPrefix len p.length ++ p

/-- R111: the canonical READ request. -/
def readBytes (t : BitVec 32) : List Byte :=
  0x83#8 :: 0x68#8 :: 0x02#8 :: 0x64#8 :: 0x00#8 :: 0x04#8 ::
    (nameRead ++ (if t.toNat ≤ 255 then [0x61#8, t.setWidth 8] else 0x62#8 :: bytes32 t))

/-- R112: the OK response, ATOM_OUT_TAG = 100. -/
def okBytes (h v : BitVec 16) : List Byte :=
  0x83#8 :: 0x68#8 :: 0x03#8 :: 0x64#8 :: 0x00#8 :: 0x02#8 :: (nameOk ++ etfInt h.toNat ++ etfInt v.toInt)

/-- R113: the TIMEOUT response, ATOM_OUT_TAG = 100. -/
def timeoutBytes : List Byte :=
  0x83#8 :: 0x68#8 :: 0x01#8 :: 0x64#8 :: 0x00#8 :: 0x07#8 :: nameTimeout

/-- The canonical `<int v>` of R110, R112, as a 32-bit pattern, and the bytes after it: tag 98 stands only for a value
outside 0..255. -/
def splitInt : List Byte → Option (BitVec 32 × List Byte)
  | tag :: r =>
    if tag = 0x61#8 then
      match r with
      | b :: rest => some (b.setWidth 32, rest)
      | [] => none
    else if tag = 0x62#8 then
      match r with
      | a :: b :: c :: d :: rest =>
        if (Machine.be32 a b c d).toNat ≤ 255 then none else some (Machine.be32 a b c d, rest)
      | _ => none
    else none
  | [] => none

/-- The operands of a canonical OK response after its atom: a humidity of 16 bits and a temperature of -32767..32767. -/
def splitOkOperands (r : List Byte) : Option Instr :=
  match splitInt r with
  | none => none
  | some (h, r1) =>
    match splitInt r1 with
    | some (v, []) =>
      if h.toNat ≤ 65535 ∧ -32767 ≤ v.toInt ∧ v.toInt ≤ 32767 then some (.msgOk (h.setWidth 16) (v.setWidth 16)) else none
    | _ => none

/-- A payload that is a canonical response (R112, R113). -/
def decodeResponse (bytes : List Byte) : Option Instr :=
  if bytes = timeoutBytes then some .msgTimeout
  else if bytes.take 8 = [0x83#8, 0x68#8, 0x03#8, 0x64#8, 0x00#8, 0x02#8] ++ nameOk then splitOkOperands (bytes.drop 8)
  else none

/-- A payload as a message: MSG.READ as the default codec decodes it, every form of R108 to R110 and R242 included, or a
canonical response. -/
def decodeMessage (bytes : List Byte) : Except Reject Instr :=
  match etfDecode 0x83#8 bytes with
  | .read t => .ok (.msgRead (BitVec.ofNat 32 t))
  | .fault c =>
    match decodeResponse bytes with
    | some i => .ok i
    | none => .error (.badMessage c)

/-- A byte string that is exactly one frame, its length prefix of two bytes (R106). -/
def decodeFrame (bytes : List Byte) : Except Reject Instr :=
  match splitFrame 2 bytes with
  | none => .error .shortFrame
  | some (p, []) => .ok (.frame p)
  | some (_, _ :: _) => .error .longFrame

/-- The instruction of an encoding, or its rejection by name. -/
def decode : Encoded → Except Reject Instr
  | .dsp v command => decodeDsp v command
  | .sch v => decodeSch v
  | .dec v => .ok (decodeDec v)
  | .frame bytes => decodeFrame bytes
  | .message bytes => decodeMessage bytes

/-! ### The encoder -/

/-- DSP_STATE[3:0] of an RX state, the code nn of the table (R101). -/
def RxState.code : RxState → BitVec 4
  | .hdr0 => 0b0001#4
  | .hdr1 => 0b0010#4
  | .pay => 0b0011#4

/-- A DSP vector from its state code and its six condition bits. -/
def dspVector (code : BitVec 4) (initFail inErr inValid inEof outErr outReady : Bool) : BitVec 10 :=
  code ++ (BitVec.ofBool initFail ++ (BitVec.ofBool inErr ++ (BitVec.ofBool inValid ++
    (BitVec.ofBool inEof ++ (BitVec.ofBool outErr ++ BitVec.ofBool outReady)))))

/-- An SCH vector from its state code and w, v, d. -/
def schVector (code : BitVec 3) (w v d : Bool) : BitVec 6 :=
  code ++ (BitVec.ofBool w ++ (BitVec.ofBool v ++ BitVec.ofBool d))

/-- A DEC vector from its state code and e, c, p, s, b. -/
def decVector (code : BitVec 2) (e c p s b : Bool) : BitVec 7 :=
  code ++ (BitVec.ofBool e ++ (BitVec.ofBool c ++ (BitVec.ofBool p ++ (BitVec.ofBool s ++ BitVec.ofBool b))))

/-- The encoding of an instruction: its row's bits, a don't-care bit written 0. -/
def encode : Instr → Encoded
  | .dspInitFail => .dsp 0b0000100000#10 false
  | .dspInitOk => .dsp 0b0000000000#10 false
  | .frRxErr nn => .dsp (nn.code ++ 0b010000#6) false
  | .frRxHdr0 => .dsp 0b0001001000#10 false
  | .frRxHdr1 => .dsp 0b0010001000#10 false
  | .frRxPay => .dsp 0b0011001000#10 false
  | .frRxEof nn => .dsp (nn.code ++ 0b000100#6) false
  | .frRxStall nn => .dsp (nn.code ++ 0b000000#6) false
  | .dspDecodeOk => .dsp 0b0100000000#10 true
  | .dspDecodeFault => .dsp 0b0100000000#10 false
  | .dspExec => .dsp 0b0101000000#10 false
  | .dspEncode => .dsp 0b0110000000#10 false
  | .frTxErr => .dsp 0b0111000010#10 false
  | .frTxByte => .dsp 0b0111000001#10 false
  | .frTxStall => .dsp 0b0111000000#10 false
  | .dspHalt => .dsp 0b1000000000#10 false
  | .schIdle => .sch 0b000000#6
  | .schStart => .sch 0b001000#6
  | .schSpaceWait => .sch 0b010100#6
  | .schSpaceGo => .sch 0b010000#6
  | .schAttempt => .sch 0b011000#6
  | .schCheckOk => .sch 0b100010#6
  | .schCheckTimeout => .sch 0b100001#6
  | .schCheckRetry => .sch 0b100000#6
  | .decIdle => .dec 0b0000000#7
  | .decWakeLow => .dec 0b0100000#7
  | .decWakeHigh => .dec 0b1000000#7
  | .decEdgeCap => .dec 0b1101000#7
  | .decEdgeHold => .dec 0b1100000#7
  | .decEdgePre => .dec 0b1110100#7
  | .decEdgeBit => .dec 0b1110001#7
  | .decEdgeExcess => .dec 0b1110000#7
  | .decEdgeRise => .dec 0b1110010#7
  | .frame p => .frame (frameBytes 2 p)
  | .msgRead t => .message (readBytes t)
  | .msgOk h v => .message (okBytes h v)
  | .msgTimeout => .message timeoutBytes

/-! ### The table's rows -/

/-- The fixed bits of a vector row of opcode_table.json as (mask, value), the pattern's x and n bits out of the mask. -/
def rowPattern : Instr → Nat × Nat
  | .dspInitFail => (0b1111100000, 0b0000100000)
  | .dspInitOk => (0b1111100000, 0b0000000000)
  | .frRxErr _ => (0b1100010000, 0b0000010000)
  | .frRxHdr0 => (0b1111011000, 0b0001001000)
  | .frRxHdr1 => (0b1111011000, 0b0010001000)
  | .frRxPay => (0b1111011000, 0b0011001000)
  | .frRxEof _ => (0b1100011100, 0b0000000100)
  | .frRxStall _ => (0b1100011100, 0b0000000000)
  | .dspDecodeOk => (0b1111000000, 0b0100000000)
  | .dspDecodeFault => (0b1111000000, 0b0100000000)
  | .dspExec => (0b1111000000, 0b0101000000)
  | .dspEncode => (0b1111000000, 0b0110000000)
  | .frTxErr => (0b1111000010, 0b0111000010)
  | .frTxByte => (0b1111000011, 0b0111000001)
  | .frTxStall => (0b1111000011, 0b0111000000)
  | .dspHalt => (0b1111000000, 0b1000000000)
  | .schIdle => (0b111000, 0b000000)
  | .schStart => (0b111000, 0b001000)
  | .schSpaceWait => (0b111100, 0b010100)
  | .schSpaceGo => (0b111100, 0b010000)
  | .schAttempt => (0b111000, 0b011000)
  | .schCheckOk => (0b111010, 0b100010)
  | .schCheckTimeout => (0b111011, 0b100001)
  | .schCheckRetry => (0b111011, 0b100000)
  | .decIdle => (0b1100000, 0b0000000)
  | .decWakeLow => (0b1100000, 0b0100000)
  | .decWakeHigh => (0b1100000, 0b1000000)
  | .decEdgeCap => (0b1111000, 0b1101000)
  | .decEdgeHold => (0b1111000, 0b1100000)
  | .decEdgePre => (0b1110100, 0b1110100)
  | .decEdgeBit => (0b1110111, 0b1110001)
  | .decEdgeExcess => (0b1110111, 0b1110000)
  | .decEdgeRise => (0b1110110, 0b1110010)
  | .frame _ | .msgRead _ | .msgOk _ _ | .msgTimeout => (0, 0)

/-- The fixed leading bytes of a WIRE row of opcode_table.json. -/
def rowPrefix : Instr → List Byte
  | .msgRead _ => [0x83#8, 0x68#8, 0x02#8, 0x64#8, 0x00#8, 0x04#8, 0x72#8, 0x65#8, 0x61#8, 0x64#8]
  | .msgOk _ _ => [0x83#8, 0x68#8, 0x03#8, 0x64#8, 0x00#8, 0x02#8, 0x6F#8, 0x6B#8]
  | .msgTimeout =>
    [0x83#8, 0x68#8, 0x01#8, 0x64#8, 0x00#8, 0x07#8, 0x74#8, 0x69#8, 0x6D#8, 0x65#8, 0x6F#8, 0x75#8, 0x74#8]
  | _ => []

/-- An encoding that has the fixed bits of the instruction's row, and the field nn of an RX row. -/
def matchesRow (i : Instr) : Encoded → Bool
  | .dsp v _ =>
    decide (v.toNat &&& (rowPattern i).1 = (rowPattern i).2) &&
      (match i with
      | .frRxErr nn | .frRxEof nn | .frRxStall nn => decide (v.extractLsb' 6 4 = nn.code)
      | _ => true)
  | .sch v => decide (v.toNat &&& (rowPattern i).1 = (rowPattern i).2)
  | .dec v => decide (v.toNat &&& (rowPattern i).1 = (rowPattern i).2)
  | .frame bytes =>
    match i with
    | .frame p => decide (bytes = BitVec.ofNat 8 (p.length / 256) :: BitVec.ofNat 8 p.length :: p)
    | _ => false
  | .message bytes => (rowPrefix i).isPrefixOf bytes

/-! ### A table word -/

/-- Byte k of a number whose bits are laid out from bit 0 up. -/
def byteOf (w k : Nat) : Byte := BitVec.ofNat 8 (w / 256 ^ k)

/-- The encoding a table word stands for. 6, 7 and 10 bits are the table's own widths; 8 and 16 are the same vectors in
whole bytes. An 8-bit word below 40 is read as an SCH vector and any other as a DEC vector, a 16-bit word below 1024 as a
DSP vector and any other as a frame header with a payload of zeros; DSP.DECODE_OK and DSP.DECODE_FAULT share one vector,
read as DECODE_OK (DESIGN CHOICE, log 15). Longer words are a message's bytes, the first in bits 7..0. -/
def tableWord (nbits w : Nat) : Option Encoded :=
  if nbits = 6 then if w < 64 then some (.sch (BitVec.ofNat 6 w)) else none
  else if nbits = 7 then if w < 128 then some (.dec (BitVec.ofNat 7 w)) else none
  else if nbits = 10 then if w < 1024 then some (.dsp (BitVec.ofNat 10 w) true) else none
  else if nbits = 8 then
    if w < 40 then some (.sch (BitVec.ofNat 6 w)) else if w < 128 then some (.dec (BitVec.ofNat 7 w)) else none
  else if nbits = 16 then
    if w < 1024 then some (.dsp (BitVec.ofNat 10 w) true)
    else some (.frame (byteOf w 0 :: byteOf w 1 :: List.replicate (be16 (byteOf w 0) (byteOf w 1)).toNat 0#8))
  else if nbits % 8 = 0 ∧ 24 ≤ nbits then some (.message ((List.range (nbits / 8)).map (byteOf w)))
  else none

/-- The instruction the decoder reads from a table word, none where it refuses. -/
def decodeTableWord (nbits w : Nat) : Option Instr :=
  match tableWord nbits w with
  | none => none
  | some enc =>
    match decode enc with
    | .ok i => some i
    | .error _ => none

end Sys2Proof
end

