-- ==== Sys2Proof/Machine/Wire.lean ====
section
/-!
DEFINITION. The meanings of the four wire formats: the effect the block's rules give the whole message (log 12, 13).
TIME_US, which the step advances, is no part of a meaning.
-/

namespace Sys2Proof.Machine

/-- FRAME: a whole request frame received, the state at DECODE entry (43_framer.md R218, R223): FR_LEN = FR_CNT = |p| and
RX_BUF[0 .. |p| - 1] = p, its prefix and payload consumed. -/
def execFrame (p : List Byte) (s : State) : Host.Outcome State Fault Refusal :=
  if p.length < 256 ^ s.params.lenBytes then
    orFault (memWriteRange s.params.payloadMax s.rxBuf 0 p) fun m =>
      .next { s with
        rxBuf := m, frLen := p.length, frCnt := p.length, hdrCnt := 0, dspState := dspDECODE,
        accepted := s.accepted ++ frameBytes s.params.lenBytes p }
  else .fault (.noSuchLength p.length)

/-- MSG.READ: the command the message stands for is executed via the read scheduler (44_command_dispatch.md R249). -/
def execMsgRead (t : BitVec 32) (s : State) : Host.Outcome State Fault Refusal := .next (s.startRead t.toNat)

/-- MSG.OK: the response with this humidity and temperature is built and offered (R244, R252). -/
def execMsgOk (h v : BitVec 16) (s : State) : Host.Outcome State Fault Refusal := s.sendResponse (.ok h.toNat v.toInt)

/-- MSG.TIMEOUT: the timeout response is built and offered (R245, R252). -/
def execMsgTimeout (s : State) : Host.Outcome State Fault Refusal := s.sendResponse .timeout

end Sys2Proof.Machine
end

