-- ==== Sys2Proof/Machine/Dispatch.lean ====
section
/-! DEFINITION. One arm per instruction: the effect of one operation of one sequencer, or of one wire message. -/

namespace Sys2Proof.Machine

def exec (i : Instr) (s : State) : Host.Outcome State Fault Refusal :=
  match i with
  | .dspInitFail => Sys2Proof.Machine.execDspInitFail s
  | .dspInitOk => Sys2Proof.Machine.execDspInitOk s
  | .frRxErr nn => Sys2Proof.Machine.execFrRxErr nn s
  | .frRxHdr0 => Sys2Proof.Machine.execFrRxHdr0 s
  | .frRxHdr1 => Sys2Proof.Machine.execFrRxHdr1 s
  | .frRxPay => Sys2Proof.Machine.execFrRxPay s
  | .frRxEof nn => Sys2Proof.Machine.execFrRxEof nn s
  | .frRxStall nn => Sys2Proof.Machine.execFrRxStall nn s
  | .dspDecodeOk => Sys2Proof.Machine.execDspDecodeOk s
  | .dspDecodeFault => Sys2Proof.Machine.execDspDecodeFault s
  | .dspExec => Sys2Proof.Machine.execDspExec s
  | .dspEncode => Sys2Proof.Machine.execDspEncode s
  | .frTxErr => Sys2Proof.Machine.execFrTxErr s
  | .frTxByte => Sys2Proof.Machine.execFrTxByte s
  | .frTxStall => Sys2Proof.Machine.execFrTxStall s
  | .dspHalt => Sys2Proof.Machine.execDspHalt s
  | .schIdle => Sys2Proof.Machine.execSchIdle s
  | .schStart => Sys2Proof.Machine.execSchStart s
  | .schSpaceWait => Sys2Proof.Machine.execSchSpaceWait s
  | .schSpaceGo => Sys2Proof.Machine.execSchSpaceGo s
  | .schAttempt => Sys2Proof.Machine.execSchAttempt s
  | .schCheckOk => Sys2Proof.Machine.execSchCheckOk s
  | .schCheckTimeout => Sys2Proof.Machine.execSchCheckTimeout s
  | .schCheckRetry => Sys2Proof.Machine.execSchCheckRetry s
  | .decIdle => Sys2Proof.Machine.execDecIdle s
  | .decWakeLow => Sys2Proof.Machine.execDecWakeLow s
  | .decWakeHigh => Sys2Proof.Machine.execDecWakeHigh s
  | .decEdgeCap => Sys2Proof.Machine.execDecEdgeCap s
  | .decEdgeHold => Sys2Proof.Machine.execDecEdgeHold s
  | .decEdgePre => Sys2Proof.Machine.execDecEdgePre s
  | .decEdgeBit => Sys2Proof.Machine.execDecEdgeBit s
  | .decEdgeExcess => Sys2Proof.Machine.execDecEdgeExcess s
  | .decEdgeRise => Sys2Proof.Machine.execDecEdgeRise s
  | .frame p => Sys2Proof.Machine.execFrame p s
  | .msgRead t => Sys2Proof.Machine.execMsgRead t s
  | .msgOk h v => Sys2Proof.Machine.execMsgOk h v s
  | .msgTimeout => Sys2Proof.Machine.execMsgTimeout s

end Sys2Proof.Machine
end

