-- ==== Sys2Proof/Machine/Tick.lean ====
section
/-!
DEFINITION. One tick (10_state.md R36): the vectors of the three sequencers, the operation each selects, and the simultaneous
writes of the three operations, all of which read the state at the start of the tick (00_scope.md R13).
-/

namespace Sys2Proof.Machine

/-! ### Selecting the operations -/

/-- The dispatcher's vector in this tick (format DSP of opcode_table.json). -/
def State.dspWord (s : State) : Encoded :=
  .dsp (dspVector s.dspState s.pins.initFail s.pins.inErr s.pins.inValid s.pins.inEof s.pins.outErr s.pins.outReady)
    s.hasCommand

/-- The scheduler's vector in this tick (format SCH). -/
def State.schWord (s : State) : Encoded := .sch (schVector s.schState s.spacingWait s.resValid s.deadlinePassed)

/-- The decoder's vector in this tick (format DEC). -/
def State.decWord (s : State) : Encoded :=
  .dec (decVector s.decState s.isEdge s.atCap s.inPreamble s.pins.gpioIn s.wantsBit)

/-! ### Hand-offs -/

/-- The operations whose rule says "hold": they write nothing. -/
def holds : Instr → Bool
  | .frRxStall _ | .dspExec | .frTxStall | .dspHalt | .schIdle | .schSpaceWait | .schAttempt | .decIdle => true
  | _ => false

/-- The decoder's operation concludes its attempt in this tick (R148, R155). -/
def concludes (e : Instr) (s : State) : Bool :=
  match e with
  | .decEdgeCap => true
  | .decEdgePre | .decEdgeBit | .decEdgeExcess | .decEdgeRise => s.lastEdge
  | _ => false

/-- Two of the tick's operations d, c, e would write one register: a hand-off write of R37 into a sequencer that is not
holding. -/
def clashes (d c e : Instr) (s : State) : Bool :=
  (decide (d = .dspDecodeOk) && (!holds c || concludes e s)) ||
  (decide (c = .schSpaceGo) && !holds e) ||
  (concludes e s && !holds c) ||
  ((decide (c = .schCheckOk) || decide (c = .schCheckTimeout)) && !holds d)

/-! ### The simultaneous writes -/

/-- The value a register takes where at most one of two operations writes it: the written one, else the old. -/
def written {α : Type} [DecidableEq α] (old x y : α) : α := if x = old then y else x

/-- The next state from `s` when the dispatcher's operation alone would give `a`, the scheduler's `b` and the decoder's `c`:
every register from the sequencer that owns it, and the registers of R37's hand-off writes from whichever wrote them. -/
def merge (s a b c : State) : State where
  timeUs := s.timeUs
  dspState := written s.dspState a.dspState b.dspState
  schState := written s.schState b.schState (written s.schState a.schState c.schState)
  decState := written s.decState c.decState b.decState
  wakeCnt := written s.wakeCnt c.wakeCnt b.wakeCnt
  lastLevel := written s.lastLevel c.lastLevel b.lastLevel
  pulseCnt := written s.pulseCnt c.pulseCnt b.pulseCnt
  edgeCnt := written s.edgeCnt c.edgeCnt b.edgeCnt
  bitCnt := written s.bitCnt c.bitCnt b.bitCnt
  raw := written s.raw c.raw b.raw
  capHit := written s.capHit c.capHit b.capHit
  resValid := c.resValid
  resCause := c.resCause
  resHum := c.resHum
  resTemp := c.resTemp
  lastReadValid := c.lastReadValid
  lastReadMs := c.lastReadMs
  deadlineMs := b.deadlineMs
  timeoutMs := a.timeoutMs
  frLen := a.frLen
  frCnt := a.frCnt
  rxBuf := a.rxBuf
  respKind := b.respKind
  txBuf := a.txBuf
  txLen := a.txLen
  txCnt := a.txCnt
  exitCode := a.exitCode
  faultCause := a.faultCause
  params := s.params
  inputs := s.inputs
  draws := s.draws
  bufDraw := s.bufDraw
  hdrCnt := a.hdrCnt
  accepted := a.accepted
  emitted := a.emitted

/-- What the step adds to the operations' writes: TIME_US counts the tick (R36, R40); the tick's inputs are used up. -/
def State.advance (s : State) : State :=
  { s with timeUs := fit .timeUs s.params.timeW (s.timeUs + 1) s.draws, inputs := s.inputs.tail, draws := s.draws + 1 }

/-- The three operations of one tick, each run on the state at its start. -/
def runOps (d c e : Instr) (s : State) : Host.Outcome State Fault Refusal :=
  match exec d s with
  | .fault f => .fault f
  | .refused r => .refused r
  | .next a =>
    match exec c s with
    | .fault f => .fault f
    | .refused r => .refused r
    | .next b =>
      match exec e s with
      | .fault f => .fault f
      | .refused r => .refused r
      | .next x => .next (merge s a b x).advance

/-- A tick with `rst` = 0. A sequencer whose state code selects no operation is refused (R45). -/
def State.tick (s : State) : Host.Outcome State Fault Refusal :=
  if s.codesLegal then
    match decode s.dspWord, decode s.schWord, decode s.decWord with
    | .ok d, .ok c, .ok e => if clashes d c e s then .refused .doubleWrite else runOps d c e s
    | _, _, _ => .refused .reservedCode
  else .refused .reservedCode

end Sys2Proof.Machine
end

