-- ==== Sys2Proof/Machine/Place.lean ====
section
/-!
DEFINITION. Placing an encoding where the next tick selects it: the registers and input ports whose bits the encoding is made
of (log 16). The other two sequencers are put in their idle or holding state, as R37 says they are.
-/

namespace Sys2Proof.Machine

/-- A tick's inputs with every port at 0. -/
def quietPins : Inputs where
  rst := false
  initFail := false
  gpioIn := false
  inValid := false
  inByte := 0#8
  inEof := false
  inErr := false
  outReady := false
  outErr := false

/-- The state with this tick's inputs replaced. -/
def State.withPins (s : State) (i : Inputs) : State := { s with inputs := i :: s.inputs.tail }

/-- The state with a request payload in RX_BUF, as a received frame leaves it (43_framer.md R218). -/
def State.withPayload (s : State) (p : List Byte) : State :=
  match memWriteRange s.params.payloadMax s.rxBuf 0 p with
  | .ok m => { s with rxBuf := m, frLen := p.length, frCnt := p.length }
  | .error _ => s

/-- A DSP vector placed: DSP_STATE and the six input ports; in DECODE a payload that gives the row's `cond`, the canonical
READ of timeout 0 or an empty one. -/
def State.placeDsp (s : State) (v : BitVec 10) (command : Bool) : State :=
  let t : State :=
    { s with dspState := v.extractLsb' 6 4, schState := schIDLE, decState := decIDLE }.withPins
      { quietPins with
        initFail := v.getLsbD 5, inErr := v.getLsbD 4, inValid := v.getLsbD 3, inEof := v.getLsbD 2,
        outErr := v.getLsbD 1, outReady := v.getLsbD 0 }
  if t.dspState = dspDECODE then t.withPayload (if command then s.params.version :: (readBytes 0#32).tail else []) else t

/-- An SCH vector placed: SCH_STATE, and for the bits its state tests, the registers they are computed from. -/
def State.placeSch (s : State) (v : BitVec 6) : State :=
  let t : State :=
    { s with dspState := dspEXEC, schState := v.extractLsb' 3 3, decState := decIDLE }.withPins quietPins
  if t.schState = schSPACE then
    { t with lastReadValid := v.getLsbD 2, lastReadMs := s.nowMs }
  else if t.schState = schCHECK then
    { t with
      resValid := v.getLsbD 1, deadlineMs := if v.getLsbD 0 then s.nowMs else s.nowMs + 1 }
  else t

/-- A DEC vector placed: DEC_STATE, and in EDGE the sample and the registers e, c, p and b are computed from. -/
def State.placeDec (s : State) (v : BitVec 7) : State :=
  let t : State :=
    { s with dspState := dspEXEC, schState := schATTEMPT, decState := v.extractLsb' 5 2 }.withPins
      { quietPins with gpioIn := v.getLsbD 1 }
  if t.decState = decEDGE then
    { t with
      lastLevel := v.getLsbD 1 != v.getLsbD 4,
      pulseCnt := BitVec.ofNat 8 (if v.getLsbD 3 then s.params.edgeCap - 1 else 0),
      edgeCnt := if v.getLsbD 2 then 0 else s.params.preambleEdges,
      bitCnt := if v.getLsbD 0 then 0 else s.params.numBits }
  else t

/-- A frame placed so that the next tick accepts its last byte and so completes it: every earlier byte has been received. -/
def State.placeFrame (s : State) (bytes : List Byte) : State :=
  match splitFrame 2 bytes with
  | none => s
  | some (p, _) =>
    let wire := frameBytes s.params.lenBytes p
    let t : State :=
      { s with
        schState := schIDLE, decState := decIDLE, accepted := s.accepted ++ wire.dropLast }.withPins
          { quietPins with inValid := true, inByte := wire.getLastD 0#8 }
    if p.length = 0 then
      { t with
        dspState := if s.params.lenBytes ≤ 1 then dspRXHDR0 else dspRXHDR1, frLen := 0, hdrCnt := s.params.lenBytes - 2 }
    else { t.withPayload p.dropLast with dspState := dspRXPAY, frLen := p.length, frCnt := p.length - 1 }

/-- A message placed: a request as the payload DECODE reads, a response as the registers ENCODE builds it from. -/
def State.placeMessage (s : State) (bytes : List Byte) : State :=
  let t : State := { s with schState := schIDLE, decState := decIDLE }.withPins quietPins
  match decodeMessage bytes with
  | .ok (.msgOk h v) => { t with dspState := dspENCODE, respKind := .ok, resHum := h, resTemp := v }
  | .ok .msgTimeout => { t with dspState := dspENCODE, respKind := .timeout }
  | _ => { t.withPayload bytes with dspState := dspDECODE }

/-- An encoding placed where the next tick selects it. -/
def State.place (s : State) : Encoded → State
  | .dsp v command => s.placeDsp v command
  | .sch v => s.placeSch v
  | .dec v => s.placeDec v
  | .frame bytes => s.placeFrame bytes
  | .message bytes => s.placeMessage bytes

end Sys2Proof.Machine
end

