-- ==== Sys2Proof/Machine/Step.lean ====
section
/-!
DEFINITION. The step: one tick of the block, and the placing of a table word for it.
-/

namespace Sys2Proof.Machine

/-- One tick. An illegal configuration has no meaning (00_scope.md R10); a tick with `rst` = 1 resets, whatever the state
(70_reset_and_hazards.md R300); any other runs one operation of each sequencer (10_state.md R36). -/
def step (s : State) : Host.Outcome State Fault Refusal :=
  if !s.params.legal then .refused .badParams
  else if s.pins.rst then .next s.resetTick
  else s.tick

/-- The state with a table word placed where the next step selects and runs it (log 16); a word that is no encoding changes
nothing. -/
def State.withFetchWord (s : State) (nbits w : Nat) : State :=
  match tableWord nbits w with
  | some enc => s.place enc
  | none => s

end Sys2Proof.Machine
end

