-- ==== Sys2Proof/Safety.lean ====
section
/-!
DEFINITION. What a safe state is, in the terms the statements use: the invariants of 10_state.md R66 and the hand-off
discipline of R37, and the decoder's bound on an attempt (40_edge_decoder.md R158).
-/

namespace Sys2Proof

/-! ### What a tick offers -/

/-- The request byte a tick offers, if any (10_state.md R31). -/
def Inputs.offered (i : Inputs) : Option Byte := if i.inValid then some i.inByte else none

/-- A tick that offers a request byte or stalls: no reset, no stream error, no end of stream (43_framer.md R218). -/
def Inputs.feeds (i : Inputs) : Bool := !i.rst && !i.inErr && !i.inEof

/-- A tick in which the response stream takes a byte or stalls: no reset, no stream error (43_framer.md R222). -/
def Inputs.drains (i : Inputs) : Bool := !i.rst && !i.outErr

/-! ### The room for a payload -/

/-- RX_BUF holds every payload the length prefix can say, as the default does (43_framer.md R224). -/
def Params.roomy (p : Params) : Prop := 256 ^ p.lenBytes ≤ p.payloadMax + 1

end Sys2Proof

namespace Sys2Proof.Machine

/-! ### The discipline of the sequencers -/

/-- A configuration the model runs (00_scope.md R10, log 3, 23). -/
def State.configured (s : State) : Prop := s.params.legal = true

/-- R37: control is with one sequencer at a time. The scheduler is out of IDLE exactly while the dispatcher is in EXEC, the
decoder exactly while the scheduler is in ATTEMPT; and no register holds a reserved code (R45). -/
structure State.Control (s : State) : Prop where
  configured : s.configured
  codes : s.codesLegal = true
  schedule : s.dspState = dspEXEC ↔ s.schState ≠ schIDLE
  attempt : s.schState = schATTEMPT ↔ s.decState ≠ decIDLE

/-! ### Whose turn it is -/

/-- The block is configured, not being reset, and no register holds a reserved code. -/
structure State.Running (s : State) : Prop where
  configured : s.configured
  noReset : s.pins.rst = false
  codes : s.codesLegal = true

/-- The dispatcher or the framer is in control: the other sequencers are idle (R37). -/
structure State.DspTurn (s : State) : Prop extends s.Running where
  sch : s.schState = schIDLE
  dec : s.decState = decIDLE

/-- The scheduler is in control: the dispatcher holds in EXEC, the decoder is idle (R37). -/
structure State.SchTurn (s : State) : Prop extends s.Running where
  dsp : s.dspState = dspEXEC
  dec : s.decState = decIDLE

/-- The decoder is in control: the dispatcher holds in EXEC, the scheduler in ATTEMPT (R37). -/
structure State.DecTurn (s : State) : Prop extends s.Running where
  dsp : s.dspState = dspEXEC
  sch : s.schState = schATTEMPT

/-! ### The counters -/

/-- The dispatcher is between two frames' prefixes: FR_LEN and FR_CNT both stand for the frame before, or for none (R58, R211 to
R213). -/
def State.betweenFrames (s : State) : Bool :=
  decide (s.dspState = dspRXHDR0 ∨ s.dspState = dspDECODE ∨ s.dspState = dspEXEC ∨ s.dspState = dspENCODE ∨
    s.dspState = dspTX ∨ s.dspState = dspINIT)

/-- A halt that can have come from RX_HDR1: the clean stop or an error of the request stream (R214, R215). -/
def State.haltedReceiving (s : State) : Bool :=
  decide (s.dspState = dspHALT ∧ (s.faultCause = causeCode .none ∨ s.faultCause = causeCode .ioRx))

/-- FR_LEN's part below the prefix bytes received so far, which RX_HDR1 still keeps from the frame before, is a number below this: 256
under the default two prefix bytes (R58, R211). -/
def State.prefixRest (s : State) : Nat := 256 ^ (s.params.lenBytes - 1 - s.hdrCnt)

/-- RX_HDR1, where FR_LEN is half the prefix being received and half the one before, or a halt that can have come from there. -/
def State.insidePrefix (s : State) : Bool := decide (s.dspState = dspRXHDR1) || s.haltedReceiving

/-- The widths and ranges of the registers (R40, R46 to R51, R55 to R58, R61, R66). FR_CNT ≤ FR_LEN is R66's. R58 and R211 break it at
one place, after a first prefix byte lower than that of a frame of 256 bytes or more before; `frame` leaves out that place alone
(log 20). -/
structure State.Counters (s : State) : Prop where
  time : s.timeUs < 2 ^ s.params.timeW
  lastRead : s.lastReadMs < 2 ^ s.params.timeW
  deadline : s.deadlineMs < 2 ^ s.params.timeW
  bytes : s.raw.length = s.params.rawBytes
  bits : s.bitCnt ≤ s.params.numBits
  edges : s.edgeCnt ≤ s.params.maxEdges
  pulse : s.pulseCnt.toNat ≤ s.params.edgeCap
  wakeLow : s.decState = decWAKELOW → s.wakeCnt < s.params.wakeLowUs
  wakeHigh : s.decState = decWAKEHIGH → s.wakeCnt < s.params.wakeHighUs
  wake : s.wakeCnt ≤ max s.params.wakeLowUs s.params.wakeHighUs - 1
  edgesLeft : s.decState ≠ decIDLE → s.edgeCnt < s.params.maxEdges
  pulseLeft : s.decState ≠ decIDLE → s.pulseCnt.toNat < s.params.edgeCap
  timeout : s.timeoutMs ≤ s.params.timeoutMax
  length : s.frLen < 256 ^ s.params.lenBytes
  prefixLeft : s.hdrCnt ≤ s.params.lenBytes - 2
  frame : s.frCnt ≤ s.frLen ∨
    (s.insidePrefix = true ∧ s.prefixRest ≤ s.frCnt ∧ s.frLen % s.prefixRest = s.frCnt % s.prefixRest)
  framePrefix : s.dspState = dspRXHDR1 → s.frLen % s.prefixRest = s.frCnt % s.prefixRest
  frameLeft : s.dspState = dspRXPAY → s.frCnt < s.frLen
  frameWhole : s.betweenFrames = true → s.frCnt = s.frLen
  frameWidth : s.frCnt < 256 ^ s.params.lenBytes
  response : s.txLen < 256 ^ s.params.lenBytes
  emitted : s.txCnt ≤ s.txLen + s.params.lenBytes
  emitLeft : s.dspState = dspTX → s.txCnt < s.txLen + s.params.lenBytes

/-! ### The buffers -/

/-- The buffers are in canonical form, and every byte the codec and the framer will read has been written (20_memory.md R81,
R83). -/
structure State.Buffers (s : State) : Prop where
  rxForm : s.rxBuf.wf s.params.payloadMax = true
  txForm : s.txBuf.wf s.params.txMax = true
  rxWritten : s.dspState = dspRXPAY ∨ s.dspState = dspDECODE → ∀ i, i < s.frCnt → (s.rxBuf.read i).isSome = true
  txWritten : s.dspState = dspTX → ∀ i, i < s.txLen → (s.txBuf.read i).isSome = true
  txFits : s.txLen ≤ s.params.txMax

/-! ### The reading -/

/-- RES_* hold the Reading of RAW, whose NUM_BITS bits pass the checksum (R53, R54; 41_validator.md R176). -/
structure State.HoldsReading (s : State) : Prop where
  valid : s.resValid = true
  cause : s.resCause = resNONE
  bits : s.bitCnt = s.params.numBits
  checksum : checksumOk (sampleOf s.raw) = true
  hum : s.resHum = humidity (sampleOf s.raw)
  temp : s.resTemp.toInt = temperature (sampleOf s.raw)

/-- A valid result waiting for the scheduler, and an OK response waiting to be encoded, are the Reading of RAW (R66,
41_validator.md R176). -/
structure State.Readings (s : State) : Prop where
  checked : s.schState = schCHECK → s.resValid = true → s.HoldsReading
  answered : s.dspState = dspENCODE → s.respKind = .ok → s.HoldsReading
  range : s.resTemp ≠ 0x8000#16

/-! ### The exit status -/

/-- R62, 44_command_dispatch.md R257, 60_exceptions.md R282: before HALT both registers hold their reset values; in HALT
either the clean stop, exit code 0, or a fault's cause and its exit code, which is not 0. -/
structure State.ExitStatus (s : State) : Prop where
  running : s.dspState ≠ dspHALT → s.exitCode = 0#8 ∧ s.faultCause = causeCode .none
  stopped : s.dspState = dspHALT →
    (s.exitCode = 0#8 ∧ s.faultCause = causeCode .none) ∨
      (s.exitCode = s.params.faultExit ∧ s.exitCode ≠ 0#8 ∧ s.faultCause ≠ causeCode .none)

/-- R66: LAST_READ_MS ≤ now_ms. -/
def State.ClockOrder (s : State) : Prop := s.lastReadMs ≤ s.nowMs

/-- Every invariant of R66 and R37 that a step keeps whatever TIME_US holds. -/
structure State.Safe (s : State) : Prop where
  control : s.Control
  counters : s.Counters
  buffers : s.Buffers
  readings : s.Readings
  exitStatus : s.ExitStatus

/-! ### The bound on an attempt -/

/-- The ticks an attempt has left at most (R158): 0 outside an attempt. -/
def State.attemptLeft (s : State) : Nat :=
  if s.decState = decWAKELOW then
    (s.params.wakeLowUs - s.wakeCnt) + s.params.wakeHighUs + s.params.maxEdges * s.params.edgeCap
  else if s.decState = decWAKEHIGH then (s.params.wakeHighUs - s.wakeCnt) + s.params.maxEdges * s.params.edgeCap
  else if s.decState = decEDGE then
    (s.params.maxEdges - s.edgeCnt) * s.params.edgeCap - s.pulseCnt.toNat
  else 0

/-! ### Runs -/

/-- `n` steps that all answer a next state. -/
def steps : Nat → State → Option State
  | 0, s => some s
  | n + 1, s =>
    match step s with
    | .next t => steps n t
    | _ => none

/-! ### The EDGE phase as a function of the samples (40_edge_decoder.md R161) -/

/-- One edge: its new level and the width of the pulse it ends. -/
structure EdgeSeen where
  level : Bool
  width : Nat
deriving DecidableEq, Repr

/-- How the EDGE phase ended: by the cap or by the MAX_EDGES-th edge. -/
inductive PhaseEnd where
  | cap
  | last
deriving DecidableEq, Repr

/-- R161's sampling loop from the middle of it: the reference level, the width so far, the edges so far, the samples to come.
It answers the edges, the way it ended and the samples it left over; none where the samples run out first. -/
def edgePhaseFrom (p : Params) (level : Bool) (w : Nat) (edges : List EdgeSeen) :
    List Bool → Option (List EdgeSeen × PhaseEnd × List Bool)
  | [] => none
  | x :: xs =>
    if x = level then
      if w + 1 = p.edgeCap then some (edges, .cap, xs) else edgePhaseFrom p level (w + 1) edges xs
    else if edges.length + 1 = p.maxEdges then some (edges ++ [⟨x, w⟩], .last, xs)
    else edgePhaseFrom p x 0 (edges ++ [⟨x, w⟩]) xs

/-- R161: the EDGE phase over the samples x_0, x_1, ... -/
def edgePhase (p : Params) (samples : List Bool) : Option (List EdgeSeen × PhaseEnd × List Bool) :=
  edgePhaseFrom p true 0 [] samples

/-- The bits of the qualifying falling edges (R149, R151), at most NUM_BITS of them (R154). -/
def bitsOf (p : Params) (edges : List EdgeSeen) : List Bool :=
  (((edges.drop p.preambleEdges).filter fun e => !e.level).map fun e => decide (p.pulseThreshold < e.width)).take p.numBits

/-- A byte from at most eight bits, the first ending highest (20_memory.md R85). -/
def byteOfBits (bits : List Bool) : Byte := BitVec.ofNat 8 (bits.foldl (fun n b => 2 * n + b.toNat) 0)

/-- The RAW_BYTES bytes of the bits, eight to a byte, byte 0 first (R85). -/
def rawOfBits (p : Params) (bits : List Bool) : List Byte :=
  (List.range p.rawBytes).map fun k => byteOfBits ((bits.drop (8 * k)).take 8)

/-! ### The accepted forms of a READ request (30_encoding.md R108 to R110; 44_command_dispatch.md R238 to R241) -/

/-- The version byte and a header of a 2-tuple, in either form. -/
def tupleForms (version : Byte) : List (List Byte) :=
  [[version, 104#8, 2#8], [version, 105#8, 0#8, 0#8, 0#8, 2#8]]

/-- The atom `read` in each of its four forms. -/
def readAtomForms : List (List Byte) :=
  [[100#8, 0#8, 4#8] ++ nameRead, [118#8, 0#8, 4#8] ++ nameRead, [115#8, 4#8] ++ nameRead, [119#8, 4#8] ++ nameRead]

/-! ### The inputs a state reads -/

/-- Two ticks' inputs that agree on every port this state reads (10_state.md R32; 60_exceptions.md R271;
70_reset_and_hazards.md R307): `rst` always, and in a tick without a reset `init_fail` in INIT, the request stream in the RX states
by the priority of R226, the response stream in TX by its priority, the line in EDGE. -/
structure State.ReadsSame (s : State) (i j : Inputs) : Prop where
  rst : i.rst = j.rst
  initFail : i.rst = false → s.dspState = dspINIT → i.initFail = j.initFail
  inErr : i.rst = false → s.inReady = true → i.inErr = j.inErr
  inValid : i.rst = false → s.inReady = true → i.inErr = false → i.inValid = j.inValid
  inByte : i.rst = false → s.inReady = true → i.inErr = false → i.inValid = true → i.inByte = j.inByte
  inEof : i.rst = false → s.inReady = true → i.inErr = false → i.inValid = false → i.inEof = j.inEof
  outErr : i.rst = false → s.dspState = dspTX → i.outErr = j.outErr
  outReady : i.rst = false → s.dspState = dspTX → i.outErr = false → i.outReady = j.outReady
  gpioIn : i.rst = false → s.decState = decEDGE → i.gpioIn = j.gpioIn

end Sys2Proof.Machine
end

