-- ==== Sys2Proof/Certificates/Slice0/Obligations.lean ====
section
/-!
DEFINITION. The statements for the provers. Each docstring names the rule of spec/ it formalises. `t.advance` is what a step adds
to the operations' writes (TIME_US counts the tick, the tick's inputs are used up); log <n> is notes/assumptions/<n>.md.
-/

open Sys2Proof Sys2Proof.Machine

/-! ### Encodings -/

/-- R104, R106, R111 to R113: decoding the encoding of a well-formed instruction gives it back, every operand at every value
its encoding admits. -/
def Obligations.DecodeOfEncode : Prop :=
  ∀ i : Instr, i.wellFormed = true → decode (encode i) = .ok i

/-- R100, R104: an operation is decoded only from a vector with the fixed bits and fields of its row. -/
def Obligations.DecodedVectorsMatchTheirRows : Prop :=
  (∀ (v : BitVec 10) (command : Bool) (i : Instr), decode (.dsp v command) = .ok i → matchesRow i (.dsp v command) = true) ∧
  (∀ (v : BitVec 6) (i : Instr), decode (.sch v) = .ok i → matchesRow i (.sch v) = true) ∧
  (∀ (v : BitVec 7) (i : Instr), decode (.dec v) = .ok i → matchesRow i (.dec v) = true)

/-- R104, R111, R113: words written out bit by bit from opcode_table.json decode to the instructions they stand for. -/
def Obligations.TableWordsDecode : Prop :=
  decode (.dsp 0b0000101010#10 false) = .ok .dspInitFail ∧
  decode (.dsp 0b0011101111#10 false) = .ok .frRxPay ∧
  decode (.dsp 0b0111111101#10 true) = .ok .frTxByte ∧
  decode (.sch 0b010111#6) = .ok .schSpaceWait ∧
  decode (.sch 0b100101#6) = .ok .schCheckTimeout ∧
  decode (.dec 0b1111001#7) = .ok .decEdgeBit ∧
  decode (.frame [0x00#8, 0x02#8, 0x83#8, 0x68#8]) = .ok (.frame [0x83#8, 0x68#8]) ∧
  decode (.message [0x83#8, 0x68#8, 0x02#8, 0x64#8, 0x00#8, 0x04#8, 0x72#8, 0x65#8, 0x61#8, 0x64#8, 0x61#8, 0x05#8]) =
    .ok (.msgRead 5#32)

/-- R106, R223: reading a written frame from a byte stream gives its payload and leaves the bytes after it, for every payload the
`len` bytes of the prefix can say the length of: at most 65535 bytes under the default two (other lengths by log 3). -/
def Obligations.FrameReadsBack : Prop :=
  ∀ (len : Nat) (p rest : List Byte), p.length < 256 ^ len → splitFrame len (frameBytes len p ++ rest) = some (p, rest)

/-! ### The step -/

/-- R36: a tick with `rst` = 0 runs the three operations the sequencers select, all on the state at its start, and counts
TIME_US. That no two of them write one register is a hypothesis (log 10). -/
def Obligations.StepRunsSelectedOperations : Prop :=
  ∀ (s : State) (d c e : Instr) (a b x : State), s.Running →
    decode s.dspWord = .ok d → decode s.schWord = .ok c → decode s.decWord = .ok e → clashes d c e s = false →
    exec d s = .next a → exec c s = .next b → exec e s = .next x → step s = .next (merge s a b x).advance

/-- R36, R37, R40: with one sequencer in control, a step is its operation, and the tick is counted: TIME_US takes its successor
where it fits TIME_W bits (a free value where it does not, log 8). -/
def Obligations.StepRunsTheSequencerInControl : Prop :=
  ∀ (s t : State) (i : Instr), exec i s = .next t →
    (s.DspTurn ∧ decode s.dspWord = .ok i) ∨ (s.SchTurn ∧ decode s.schWord = .ok i) ∨
      (s.DecTurn ∧ decode s.decWord = .ok i) →
    step s = .next { t with
      timeUs := fit .timeUs s.params.timeW (s.timeUs + 1) s.draws, inputs := s.inputs.tail, draws := s.draws + 1 } ∧
    (s.timeUs + 1 < 2 ^ s.params.timeW → fit .timeUs s.params.timeW (s.timeUs + 1) s.draws = s.timeUs + 1)

/-- R100, R104: the operation map, and what it is where no condition of R104 holds (log 20). Each state code and condition selects the
operation of its row, the first row whose condition holds, and a reserved code selects none. -/
def Obligations.OperationMap : Prop :=
  ∀ s : State,
    decode s.dspWord =
      (if s.dspState = dspINIT then .ok (if s.pins.initFail then .dspInitFail else .dspInitOk)
      else if s.dspState = dspRXHDR0 then
        .ok (if s.pins.inErr then .frRxErr .hdr0 else if s.pins.inValid then .frRxHdr0
          else if s.pins.inEof then .frRxEof .hdr0 else .frRxStall .hdr0)
      else if s.dspState = dspRXHDR1 then
        .ok (if s.pins.inErr then .frRxErr .hdr1 else if s.pins.inValid then .frRxHdr1
          else if s.pins.inEof then .frRxEof .hdr1 else .frRxStall .hdr1)
      else if s.dspState = dspRXPAY then
        .ok (if s.pins.inErr then .frRxErr .pay else if s.pins.inValid then .frRxPay
          else if s.pins.inEof then .frRxEof .pay else .frRxStall .pay)
      else if s.dspState = dspDECODE then .ok (if s.hasCommand then .dspDecodeOk else .dspDecodeFault)
      else if s.dspState = dspEXEC then .ok .dspExec
      else if s.dspState = dspENCODE then .ok .dspEncode
      else if s.dspState = dspTX then
        .ok (if s.pins.outErr then .frTxErr else if s.pins.outReady then .frTxByte else .frTxStall)
      else if s.dspState = dspHALT then .ok .dspHalt
      else .error .reservedDspState) ∧
    decode s.schWord =
      (if s.schState = schIDLE then .ok .schIdle
      else if s.schState = schSTART then .ok .schStart
      else if s.schState = schSPACE then
        .ok (if s.lastReadValid = true ∧ (s.nowMs : Int) - s.lastReadMs < s.params.minSpacing then .schSpaceWait
          else .schSpaceGo)
      else if s.schState = schATTEMPT then .ok .schAttempt
      else if s.schState = schCHECK then
        .ok (if s.resValid then .schCheckOk else if s.deadlineMs ≤ s.nowMs then .schCheckTimeout
          else .schCheckRetry)
      else .error .reservedSchState) ∧
    decode s.decWord =
      .ok (if s.decState = decIDLE then .decIdle
      else if s.decState = decWAKELOW then .decWakeLow
      else if s.decState = decWAKEHIGH then .decWakeHigh
      else if s.pins.gpioIn = s.lastLevel then
        (if s.pulseCnt.toNat + 1 = s.params.edgeCap then .decEdgeCap else .decEdgeHold)
      else if s.edgeCnt < s.params.preambleEdges then .decEdgePre
      else if s.pins.gpioIn = false then (if s.bitCnt < s.params.numBits then .decEdgeBit else .decEdgeExcess)
      else .decEdgeRise)

/-- R45: a state that holds a reserved sequencer code is refused, unless the tick resets (log 9). -/
def Obligations.ReservedCodesAreRefused : Prop :=
  ∀ s : State, s.configured → s.pins.rst = false → (9 ≤ s.dspState.toNat ∨ 5 ≤ s.schState.toNat) →
    step s = .refused .reservedCode

/-- R10: a configuration that breaks one of its conditions is refused; and, by the model's choice (log 3, 23), one whose FAULT_EXIT
is 0 or whose length prefix cannot say the length of every response. No other is. -/
def Obligations.IllegalParametersAreRefused : Prop :=
  ∀ s : State,
    step s = .refused .badParams ↔
      ¬ (1 ≤ s.params.wakeLowUs ∧ 1 ≤ s.params.wakeHighUs ∧ 1 ≤ s.params.edgeCap ∧ s.params.edgeCap ≤ 255 ∧
        1 ≤ s.params.maxEdges ∧ s.params.numBits = 8 * s.params.rawBytes ∧ s.params.pulseThreshold ≤ 254 ∧
        s.params.timeoutMax < 2 ^ s.params.timeW ∧ s.params.faultExit ≠ 0#8 ∧ s.params.txMax < 256 ^ s.params.lenBytes)

/-- R65: a tick with `rst` = 1 gives the reset value of every register that has one, from any state, HALT and reserved codes
included, and the reset outputs (R300). -/
def Obligations.ResetTickGivesTheResetState : Prop :=
  ∀ s : State, s.configured → s.pins.rst = true →
    ∃ t, step s = .next t ∧
      t.timeUs = 0 ∧ t.dspState = dspINIT ∧ t.schState = schIDLE ∧ t.decState = decIDLE ∧ t.wakeCnt = 0 ∧
      t.lastLevel = true ∧ t.pulseCnt = 0 ∧ t.edgeCnt = 0 ∧ t.bitCnt = 0 ∧
      t.raw = List.replicate s.params.rawBytes 0#8 ∧ t.capHit = false ∧
      t.resValid = false ∧ t.resCause = resNONE ∧ t.resHum = 0 ∧ t.resTemp = 0 ∧ t.lastReadValid = false ∧
      t.lastReadMs = 0 ∧ t.deadlineMs = 0 ∧ t.timeoutMs = 0 ∧ t.frLen = 0 ∧ t.frCnt = 0 ∧ t.respKind = .ok ∧
      t.txLen = 0 ∧ t.txCnt = 0 ∧ t.exitCode = 0 ∧ t.faultCause = 0 ∧
      t.gpioOe = false ∧ t.inReady = false ∧ t.outValid = false ∧ t.outByte = .ok 0 ∧ t.halted = false

/-- R65, R66: the reset state of every legal parameter set meets every invariant the steps keep, whatever inputs are to come; the
default parameters are legal. -/
def Obligations.ResetStateIsSafe : Prop :=
  (∀ (p : Params) (l : List Inputs), p.legal = true →
    ({ State.resetOf p with inputs := l } : State).Safe ∧ ({ State.resetOf p with inputs := l } : State).ClockOrder) ∧
  State.reset.Safe ∧ State.reset.ClockOrder

/-! ### The operations that hold, start and stop -/

/-- R141, R186, R188, R190, R216, R220, R251, R253: the operations whose rule says "hold" write nothing. -/
def Obligations.HoldOperationsWriteNothing : Prop :=
  ∀ (s : State) (nn : RxState),
    exec (.frRxStall nn) s = .next s ∧ exec .dspExec s = .next s ∧ exec .frTxStall s = .next s ∧
    exec .dspHalt s = .next s ∧ exec .schIdle s = .next s ∧ exec .schSpaceWait s = .next s ∧
    exec .schAttempt s = .next s ∧ exec .decIdle s = .next s

/-- R247, R248: INIT lasts one tick and goes to RX_HDR0, or to HALT with cause INIT when `init_fail` = 1; nothing else
changes. -/
def Obligations.InitEntersTheLoopOrFaults : Prop :=
  ∀ s : State,
    exec .dspInitOk s = .next { s with dspState := dspRXHDR0 } ∧
    exec .dspInitFail s = .next { s with dspState := dspHALT, exitCode := s.params.faultExit, faultCause := 1#4 } ∧
    (s.DspTurn → s.dspState = dspINIT →
      step s = .next (if s.pins.initFail
        then { s with dspState := dspHALT, exitCode := s.params.faultExit, faultCause := 1#4 }
        else { s with dspState := dspRXHDR0 } : State).advance)

/-- R215, R221, R226, R273, R275: a stream error is taken as a fault, whatever else the streams offer in the tick; it writes the
three fault registers, and no byte is accepted or emitted. -/
def Obligations.StreamErrorsTakeTheFault : Prop :=
  ∀ (s : State) (nn : RxState),
    exec (.frRxErr nn) s = .next { s with dspState := dspHALT, exitCode := s.params.faultExit, faultCause := 6#4 } ∧
    exec .frTxErr s = .next { s with dspState := dspHALT, exitCode := s.params.faultExit, faultCause := 7#4 } ∧
    (s.DspTurn → s.inReady = true → s.pins.inErr = true →
      step s = .next ({ s with dspState := dspHALT, exitCode := s.params.faultExit, faultCause := 6#4 } : State).advance) ∧
    (s.DspTurn → s.dspState = dspTX → s.pins.outErr = true →
      step s = .next ({ s with dspState := dspHALT, exitCode := s.params.faultExit, faultCause := 7#4 } : State).advance)

/-- R214, R226: end of stream in any RX state, with no error and no byte in the tick, is the clean stop with exit code 0. -/
def Obligations.EndOfStreamStopsCleanly : Prop :=
  ∀ (s : State) (nn : RxState),
    exec (.frRxEof nn) s = .next { s with dspState := dspHALT, exitCode := 0#8, faultCause := 0#4 } ∧
    (s.DspTurn → s.inReady = true → s.pins.inErr = false → s.pins.inValid = false → s.pins.inEof = true →
      step s = .next ({ s with dspState := dspHALT, exitCode := 0#8, faultCause := 0#4 } : State).advance)

/-- Where an operation's meaning stops (the model's choice, log 11, 12 and 22): DECODE_OK and DECODE_FAULT where the codec's result
is the other one's or the payload does not fit RX_BUF, an index past RAW, RX_BUF or TX_BUF, and a FRAME longer than its prefix can say.
No state of the run selects one (SafeStatesNeverStop). A byte inside RX_BUF or TX_BUF that nothing has written stops nothing: it is the
free value of log 6. -/
def Obligations.StopsOfUnselectedOperations : Prop :=
  ∀ s : State,
    (∀ c, s.codecResult = .ok (.fault c) → exec .dspDecodeOk s = .refused .notSelected) ∧
    (∀ t, s.codecResult = .ok (.read t) → exec .dspDecodeFault s = .refused .notSelected) ∧
    (s.params.payloadMax < s.frLen →
      exec .dspDecodeOk s = .fault (.noSuchIndex s.params.payloadMax) ∧
        exec .dspDecodeFault s = .fault (.noSuchIndex s.params.payloadMax)) ∧
    (s.raw.length ≤ s.bitCnt / 8 → exec .decEdgeBit s = .fault (.noSuchIndex (s.bitCnt / 8))) ∧
    (s.params.payloadMax ≤ s.frCnt → exec .frRxPay s = .fault (.noSuchIndex s.frCnt)) ∧
    (s.params.txMax + s.params.lenBytes ≤ s.txCnt →
      exec .frTxByte s = .fault (.noSuchIndex (s.txCnt - s.params.lenBytes))) ∧
    (∀ p : List Byte, 256 ^ s.params.lenBytes ≤ p.length → exec (.frame p) s = .fault (.noSuchLength p.length)) ∧
    (∀ i, i < s.params.payloadMax → s.rxBuf.read i = none →
      memRead s.params.payloadMax (Config.freeByte .rx s.bufDraw) s.rxBuf i = .ok (Config.freeByte .rx s.bufDraw i)) ∧
    (s.dspState = dspTX → s.params.lenBytes ≤ s.txCnt → s.txCnt - s.params.lenBytes < s.params.txMax →
      s.txBuf.read (s.txCnt - s.params.lenBytes) = none →
      s.outByte = .ok (Config.freeByte .tx s.bufDraw (s.txCnt - s.params.lenBytes)))

/-! ### Receiving a frame -/

/-- R211: the first prefix byte is the most significant byte of FR_LEN, bits 15..8 under the default LEN_BYTES = 2. By the model's
choice (log 3) the same holds of every LEN_BYTES, and a prefix of one byte is complete with it. -/
def Obligations.HeaderHighByte : Prop :=
  ∀ s : State, ∃ t, exec .frRxHdr0 s = .next t ∧
    (s.params.lenBytes = 2 → t.frLen = s.pins.inByte.toNat * 256 + s.frLen % 256) ∧
    t.frLen = s.pins.inByte.toNat * 256 ^ (s.params.lenBytes - 1) + s.frLen % 256 ^ (s.params.lenBytes - 1) ∧
    (2 ≤ s.params.lenBytes → t = { s with
      frLen := t.frLen, hdrCnt := 0, dspState := dspRXHDR1, accepted := s.accepted ++ [s.pins.inByte] }) ∧
    (s.params.lenBytes ≤ 1 → t = { s with
      frLen := t.frLen, frCnt := 0, hdrCnt := 0, dspState := if t.frLen = 0 then dspDECODE else dspRXPAY,
      accepted := s.accepted ++ [s.pins.inByte] }) ∧
    (s.DspTurn → s.dspState = dspRXHDR0 → s.pins.inErr = false → s.pins.inValid = true → step s = .next t.advance)

/-- R212, R217: the last prefix byte, under the default LEN_BYTES = 2 the second one, is bits 7..0 of FR_LEN; an empty payload goes
straight to DECODE. By the model's choice (log 3) an earlier byte of a longer prefix takes its place in FR_LEN and the framer stays
in RX_HDR1. -/
def Obligations.HeaderLowByte : Prop :=
  ∀ s : State, ∃ t, exec .frRxHdr1 s = .next t ∧
    (s.params.lenBytes ≤ s.hdrCnt + 2 →
      t.frLen = s.frLen / 256 * 256 + s.pins.inByte.toNat ∧
      t = { s with
        frLen := t.frLen, frCnt := 0, hdrCnt := 0, dspState := if t.frLen = 0 then dspDECODE else dspRXPAY,
        accepted := s.accepted ++ [s.pins.inByte] }) ∧
    (∀ j, s.params.lenBytes = s.hdrCnt + 2 + (j + 1) →
      t.frLen / 256 ^ (j + 2) = s.frLen / 256 ^ (j + 2) ∧ t.frLen / 256 ^ (j + 1) % 256 = s.pins.inByte.toNat ∧
      t.frLen % 256 ^ (j + 1) = s.frLen % 256 ^ (j + 1) ∧
      t = { s with frLen := t.frLen, hdrCnt := s.hdrCnt + 1, accepted := s.accepted ++ [s.pins.inByte] }) ∧
    (s.DspTurn → s.dspState = dspRXHDR1 → s.pins.inErr = false → s.pins.inValid = true → step s = .next t.advance)

/-- R213, R81: a payload byte goes to RX_BUF at index FR_CNT, every other byte of RX_BUF unchanged; the last one ends the
frame. -/
def Obligations.PayloadByte : Prop :=
  ∀ s : State, s.frCnt < s.params.payloadMax → ∃ t, exec .frRxPay s = .next t ∧
    t.rxBuf.read s.frCnt = some s.pins.inByte ∧
    (∀ a, a ≠ s.frCnt → t.rxBuf.read a = s.rxBuf.read a) ∧
    t = { s with
      rxBuf := t.rxBuf, frCnt := s.frCnt + 1,
      dspState := if s.frCnt + 1 = s.frLen then dspDECODE else s.dspState,
      accepted := s.accepted ++ [s.pins.inByte] } ∧
    (s.DspTurn → s.dspState = dspRXPAY → s.pins.inErr = false → s.pins.inValid = true → step s = .next t.advance)

/-- The meaning of FRAME is the state at DECODE entry (the model's choice, log 12): FR_LEN = FR_CNT = |p|, RX_BUF[k] = p[k], every
other byte of RX_BUF unchanged, the frame's bytes consumed (R218, R223). -/
def Obligations.FrameIsTheReceivedPayload : Prop :=
  ∀ (s : State) (p : List Byte), p.length < 256 ^ s.params.lenBytes → p.length ≤ s.params.payloadMax →
    ∃ t, exec (.frame p) s = .next t ∧
      (∀ k (h : k < p.length), t.rxBuf.read k = some p[k]) ∧
      (∀ a, p.length ≤ a → t.rxBuf.read a = s.rxBuf.read a) ∧
      t = { s with
        rxBuf := t.rxBuf, frLen := p.length, frCnt := p.length, hdrCnt := 0, dspState := dspDECODE,
        accepted := s.accepted ++ frameBytes s.params.lenBytes p }

/-- R218, R223 (headline): however the ticks of a frame are interleaved with stalls, the run from RX_HDR0 over them reaches DECODE
with FR_LEN = FR_CNT = |p| and RX_BUF[k] = p[k], in the state FRAME's meaning gives (log 12), only the tick count differing. The prefix
is the two bytes R218 writes out. -/
def Obligations.FrameIsReassembled : Prop :=
  ∀ (s u : State) (p : List Byte) (l : List Inputs) (i : Inputs) (rest : List Inputs),
    s.params.lenBytes = 2 → p.length ≤ 65535 → p.length ≤ s.params.payloadMax →
    s.configured → s.codesLegal = true → s.schState = schIDLE → s.decState = decIDLE → s.dspState = dspRXHDR0 →
    s.inputs = l ++ i :: rest → (∀ j ∈ l ++ [i], j.feeds = true) → i.inValid = true →
    (l ++ [i]).filterMap Inputs.offered = frameBytes 2 p →
    exec (.frame p) s = .next u →
    ∃ t, steps (l.length + 1) s = some t ∧
      t.dspState = dspDECODE ∧ t.frLen = p.length ∧ t.frCnt = t.frLen ∧
      (∀ k (h : k < p.length), t.rxBuf.read k = some p[k]) ∧
      t = { u with timeUs := t.timeUs, inputs := rest, draws := s.draws + (l.length + 1) } ∧
      (s.timeUs + (l.length + 1) < 2 ^ s.params.timeW → t.timeUs = s.timeUs + (l.length + 1))

/-! ### Sending a response -/

/-- R219, R34: the byte TX_CNT selects is emitted: the two bytes of the length, most significant first, then the payload; after the
last one the framer goes back to RX_HDR0. By the model's choice (log 3) the length has LEN_BYTES bytes where that is not 2. -/
def Obligations.ResponseByte : Prop :=
  ∀ s : State, s.txCnt < s.txLen + s.params.lenBytes → s.txLen ≤ s.params.txMax →
    ∃ t b, exec .frTxByte s = .next t ∧
      (s.params.lenBytes = 2 → s.txLen < 65536 →
        (s.txCnt = 0 → b.toNat = s.txLen / 256) ∧ (s.txCnt = 1 → b.toNat = s.txLen % 256)) ∧
      (s.txCnt < s.params.lenBytes → b.toNat = s.txLen / 256 ^ (s.params.lenBytes - 1 - s.txCnt) % 256) ∧
      (s.params.lenBytes ≤ s.txCnt → ∀ c, s.txBuf.read (s.txCnt - s.params.lenBytes) = some c → b = c) ∧
      t = { s with
        txCnt := s.txCnt + 1, emitted := s.emitted ++ [b],
        dspState := if s.txCnt + 1 = s.txLen + s.params.lenBytes then dspRXHDR0 else s.dspState } ∧
      (s.DspTurn → s.dspState = dspTX → s.pins.outErr = false → s.pins.outReady = true →
        s.outByte = .ok b ∧ step s = .next t.advance)

/-- R252: ENCODE places the encoded response in TX_BUF from index 0, every later byte unchanged, and offers it, under the default codec
and under every lawful one. -/
def Obligations.EncodeBuildsTheResponse : Prop :=
  ∀ (s : State) (q : List Byte),
    q = codecEncode s.params (if s.respKind = .ok then .ok s.resHum.toNat s.resTemp.toInt else .timeout) →
    ∃ t, exec .dspEncode s = .next t ∧
      (∀ k (h : k < q.length), t.txBuf.read k = some q[k]) ∧
      (∀ a, q.length ≤ a → t.txBuf.read a = s.txBuf.read a) ∧
      t = { s with txBuf := t.txBuf, txLen := q.length, txCnt := 0, dspState := dspTX } ∧
      (s.DspTurn → s.dspState = dspENCODE → step s = .next t.advance)

/-- The meaning of MSG.OK and of MSG.TIMEOUT is that response placed in TX_BUF and offered (the model's choice, log 13); it is
what ENCODE does when the result registers hold it (R244, R245, R252). -/
def Obligations.ResponseMessagesAreOffered : Prop :=
  ∀ (s : State) (h v : BitVec 16), s.params = Params.default →
    (∃ t, exec (.msgOk h v) s = .next t ∧
      (∀ k (hk : k < (okBytes h v).length), t.txBuf.read k = some (okBytes h v)[k]) ∧
      (∀ a, (okBytes h v).length ≤ a → t.txBuf.read a = s.txBuf.read a) ∧
      t = { s with txBuf := t.txBuf, txLen := (okBytes h v).length, txCnt := 0, dspState := dspTX } ∧
      (s.respKind = .ok → s.resHum = h → s.resTemp = v → exec .dspEncode s = .next t)) ∧
    (∃ t, exec .msgTimeout s = .next t ∧
      (∀ k (hk : k < timeoutBytes.length), t.txBuf.read k = some timeoutBytes[k]) ∧
      (∀ a, timeoutBytes.length ≤ a → t.txBuf.read a = s.txBuf.read a) ∧
      t = { s with txBuf := t.txBuf, txLen := 13, txCnt := 0, dspState := dspTX } ∧
      (s.respKind = .timeout → exec .dspEncode s = .next t))

/-- R222 (headline): from TX with TX_CNT = 0, the bytes emitted up to RX_HDR0 are exactly `write_frame` of the TX_LEN bytes of
TX_BUF, however the ticks that take a byte are interleaved with stalls. By the model's choice (log 3) `write_frame` writes LEN_BYTES
bytes of length where that is not 2. -/
def Obligations.ResponseFrameIsEmitted : Prop :=
  ∀ (s : State) (q : List Byte) (l : List Inputs) (i : Inputs) (rest : List Inputs),
    s.configured → s.codesLegal = true → s.schState = schIDLE → s.decState = decIDLE → s.dspState = dspTX →
    s.txCnt = 0 → q.length = s.txLen → q.length ≤ s.params.txMax →
    (∀ k (h : k < q.length), s.txBuf.read k = some q[k]) →
    s.inputs = l ++ i :: rest → (∀ j ∈ l ++ [i], j.drains = true) → i.outReady = true →
    ((l ++ [i]).filter Inputs.outReady).length = q.length + s.params.lenBytes →
    ∃ t, steps (l.length + 1) s = some t ∧
      t = { s with
        timeUs := t.timeUs, dspState := dspRXHDR0, txCnt := q.length + s.params.lenBytes,
        emitted := s.emitted ++ frameBytes s.params.lenBytes q, inputs := rest, draws := s.draws + (l.length + 1) }

/-! ### The command -/

/-- R249: with a payload in RX_BUF that the codec decodes to Read(t), DECODE_OK starts the read scheduler with t. -/
def Obligations.ReadCommandStartsTheScheduler : Prop :=
  ∀ (s : State) (p : List Byte) (t : Nat), p.length = s.frLen → p.length ≤ s.params.payloadMax →
    (∀ k (h : k < p.length), s.rxBuf.read k = some p[k]) → codecDecode s.params p = .read t →
    exec .dspDecodeOk s = .next { s with timeoutMs := t, dspState := dspEXEC, schState := schSTART } ∧
    (s.DspTurn → s.dspState = dspDECODE →
      step s = .next ({ s with timeoutMs := t, dspState := dspEXEC, schState := schSTART } : State).advance)

/-- The meaning of MSG.READ is the command it stands for (the model's choice, log 13): it starts the read scheduler with its
timeout, as DECODE_OK does where the message stands in RX_BUF (R249, R111). -/
def Obligations.ReadMessageStartsTheScheduler : Prop :=
  ∀ (s : State) (t : BitVec 32), ∃ u, exec (.msgRead t) s = .next u ∧
    u = { s with timeoutMs := t.toNat, dspState := dspEXEC, schState := schSTART } ∧
    (s.params = Params.default → t.toNat ≤ 2147483647 → s.frLen = (readBytes t).length →
      (∀ k (h : k < (readBytes t).length), s.rxBuf.read k = some (readBytes t)[k]) → exec .dspDecodeOk s = .next u)

/-- R250, R256, R277: with a payload the codec rejects, DECODE_FAULT takes the protocol fault with the codec's cause; the
scheduler is not started and nothing else is written. -/
def Obligations.BadPayloadTakesTheProtocolFault : Prop :=
  ∀ (s : State) (p : List Byte) (c : ProtocolFault), p.length = s.frLen → p.length ≤ s.params.payloadMax →
    (∀ k (h : k < p.length), s.rxBuf.read k = some p[k]) → codecDecode s.params p = .fault c →
    ∃ code : BitVec 4,
      code = (match c with | .version => 2#4 | .arity => 3#4 | .atom => 4#4 | .field => 5#4) ∧
      exec .dspDecodeFault s = .next { s with dspState := dspHALT, exitCode := s.params.faultExit, faultCause := code } ∧
      (s.DspTurn → s.dspState = dspDECODE →
        step s = .next
          ({ s with dspState := dspHALT, exitCode := s.params.faultExit, faultCause := code } : State).advance)

/-- R82: RX_BUF bytes at indices from FR_LEN up are never observed: DECODE does the same whatever they are. -/
def Obligations.StaleBytesAreNotRead : Prop :=
  ∀ (s t : State) (m : Memory), s.DspTurn → s.dspState = dspDECODE →
    (∀ a, a < s.frLen → m.read a = s.rxBuf.read a) → step s = .next t →
    step { s with rxBuf := m } = .next { t with rxBuf := m }

/-! ### The codec -/

/-- R108 to R111, R237 to R242: a READ request decodes to its timeout in every accepted form of its tuple header, of its atom and of
its integer (tag 97 for a byte, tag 98 for any value up to 2^31 - 1), whatever bytes follow it; the canonical request among them. -/
def Obligations.ReadRequestDecodes : Prop :=
  (∀ (p : Params) (h a : List Byte) (b : Byte) (t : BitVec 32) (rest : List Byte), p.codec = .etf →
    h ∈ tupleForms p.version → a ∈ readAtomForms →
    (b.toNat ≤ p.timeoutMax → codecDecode p (h ++ a ++ [97#8, b] ++ rest) = .read b.toNat) ∧
    (t.toNat ≤ 2147483647 → t.toNat ≤ p.timeoutMax →
      codecDecode p (h ++ a ++ 98#8 :: bytes32 t ++ rest) = .read t.toNat)) ∧
  (∀ (t : BitVec 32) (rest : List Byte), t.toNat ≤ 2147483647 →
    codecDecode Params.default (readBytes t ++ rest) = .read t.toNat)

/-- R235: a decoded timeout is at most TIMEOUT_MAX, and under the default profile at most 2^31 - 1. -/
def Obligations.DecodedTimeoutIsBounded : Prop :=
  ∀ (p : Params) (bytes : List Byte) (t : Nat), codecDecode p bytes = .read t →
    t ≤ p.timeoutMax ∧ (p.codec = .etf → t ≤ 2147483647)

/-- R237 to R241, R243: the first failing step gives the cause. `p.version :: h` runs over the two forms of a 2-tuple's header and `a`
over the four forms of the atom `read`, so each clause of a later step stands after earlier steps that succeed. -/
def Obligations.FirstFailingStepGivesTheCause : Prop :=
  ∀ (p : Params) (h a : List Byte), p.codec = .etf → h ∈ tupleForms p.version → a ∈ readAtomForms →
    -- R237, the version
    (codecDecode p [] = .fault .version ∧
      ∀ b rest, b ≠ p.version → codecDecode p (b :: rest) = .fault .version) ∧
    -- R238, the tuple header
    (codecDecode p [p.version] = .fault .field ∧
      (∀ b rest, b ≠ 104#8 → b ≠ 105#8 → codecDecode p (p.version :: b :: rest) = .fault .field) ∧
      codecDecode p [p.version, 104#8] = .fault .field ∧
      ∀ r : List Byte, r.length < 4 → codecDecode p (p.version :: 105#8 :: r) = .fault .field) ∧
    -- R239, the arity
    ((∀ b rest, b ≠ 2#8 → codecDecode p (p.version :: 104#8 :: b :: rest) = .fault .arity) ∧
      ∀ b0 b1 b2 b3 rest, (be32 b0 b1 b2 b3).toNat ≠ 2 →
        codecDecode p (p.version :: 105#8 :: b0 :: b1 :: b2 :: b3 :: rest) = .fault .arity) ∧
    -- R240, the first element
    (codecDecode p h = .fault .field ∧
      (∀ b rest, b ≠ 100#8 → b ≠ 118#8 → b ≠ 115#8 → b ≠ 119#8 → codecDecode p (h ++ b :: rest) = .fault .atom) ∧
      (∀ b (r : List Byte), b = 100#8 ∨ b = 118#8 → r.length < 2 → codecDecode p (h ++ b :: r) = .fault .field) ∧
      (∀ b, b = 115#8 ∨ b = 119#8 → codecDecode p (h ++ [b]) = .fault .field) ∧
      (∀ b x y (r : List Byte), b = 100#8 ∨ b = 118#8 → r.length < (be16 x y).toNat →
        codecDecode p (h ++ b :: x :: y :: r) = .fault .field) ∧
      (∀ b x (r : List Byte), b = 115#8 ∨ b = 119#8 → r.length < x.toNat →
        codecDecode p (h ++ b :: x :: r) = .fault .field) ∧
      (∀ b x y (name rest : List Byte), b = 100#8 ∨ b = 118#8 → name.length = (be16 x y).toNat → name ≠ nameRead →
        codecDecode p (h ++ b :: x :: y :: name ++ rest) = .fault .atom) ∧
      ∀ b x (name rest : List Byte), b = 115#8 ∨ b = 119#8 → name.length = x.toNat → name ≠ nameRead →
        codecDecode p (h ++ b :: x :: name ++ rest) = .fault .atom) ∧
    -- R241, the second element
    (codecDecode p (h ++ a) = .fault .field ∧
      (∀ b rest, b ≠ 97#8 → b ≠ 98#8 → codecDecode p (h ++ a ++ b :: rest) = .fault .field) ∧
      codecDecode p (h ++ a ++ [97#8]) = .fault .field ∧
      (∀ r : List Byte, r.length < 4 → codecDecode p (h ++ a ++ 98#8 :: r) = .fault .field) ∧
      ∀ b0 b1 b2 b3 rest, 128 ≤ b0.toNat → codecDecode p (h ++ a ++ 98#8 :: b0 :: b1 :: b2 :: b3 :: rest) = .fault .field)

/-- R258: a response of the default codec has 12 to 18 bytes, the timeout response 13. -/
def Obligations.ResponseLengths : Prop :=
  ∀ (h : Nat) (v : Int),
    12 ≤ (codecEncode Params.default (.ok h v)).length ∧ (codecEncode Params.default (.ok h v)).length ≤ 18 ∧
    (codecEncode Params.default .timeout).length = 13

/-- R236: the encode of every codec, the default under either atom tag or a lawful substitute, is injective on the responses of R235,
and no response is longer than TX_MAX. -/
def Obligations.EncodeIsInjective : Prop :=
  ∀ p : Params,
    (∀ r r' : Response, r.inRange → r'.inRange → codecEncode p r = codecEncode p r' → r = r') ∧
    ∀ r : Response, (codecEncode p r).length ≤ p.txMax

/-! ### The validator -/

/-- R171: for every first four bytes exactly one fifth byte passes, the low byte of their sum. -/
def Obligations.OneChecksumBytePasses : Prop :=
  ∀ r : RawSample,
    checksumOk r = true ↔ r.r4 = r.r0 + r.r1 + r.r2 + r.r3

/-- R172, R173, R174: the humidity is the big-endian value of bytes 0 and 1; the temperature is sign-magnitude, the sign in bit 7
of byte 2, never below -32767 or above 32767, and its 16-bit pattern reads back as it. -/
def Obligations.ReadingConvertsTheBytes : Prop :=
  ∀ r : RawSample,
    (humidity r).toNat = r.r0.toNat * 256 + r.r1.toNat ∧
    tempMagnitude r = (r.r2.toNat % 128) * 256 + r.r3.toNat ∧
    temperature r = (if 128 ≤ r.r2.toNat then -(tempMagnitude r : Int) else (tempMagnitude r : Int)) ∧
    -32767 ≤ temperature r ∧ temperature r ≤ 32767 ∧ (int16 (temperature r)).toInt = temperature r

/-! ### The scheduler -/

/-- R187, R200: START takes the deadline now + timeout, exactly where it fits TIME_W bits (a free value where it does not, log 8), as
it always does under the defaults, and goes to SPACE. -/
def Obligations.StartTakesTheDeadline : Prop :=
  ∀ s : State, ∃ t, exec .schStart s = .next t ∧
    (s.timeUs / 1000 + s.timeoutMs < 2 ^ s.params.timeW → t.deadlineMs = s.timeUs / 1000 + s.timeoutMs) ∧
    (s.params = Params.default → s.Counters → t.deadlineMs = s.timeUs / 1000 + s.timeoutMs) ∧
    t = { s with deadlineMs := t.deadlineMs, schState := schSPACE } ∧
    (s.SchTurn → s.schState = schSTART → step s = .next t.advance)

/-- R188, R189, R142, R304: with no attempt concluded yet, or MIN_SPACING milliseconds after the last one, SPACE_GO starts an
attempt with a cleared datapath; until then the scheduler waits. -/
def Obligations.SpacingFloorThenAttempt : Prop :=
  ∀ s : State, ∃ t, exec .schSpaceGo s = .next t ∧
    t = { s with
      schState := schATTEMPT, decState := decWAKELOW, wakeCnt := 0, lastLevel := true, pulseCnt := 0#8, edgeCnt := 0,
      bitCnt := 0, raw := List.replicate s.params.rawBytes 0#8, capHit := false } ∧
    (s.SchTurn → s.schState = schSPACE →
      step s = .next
        (if s.lastReadValid = true ∧ s.nowMs < s.lastReadMs + s.params.minSpacing then s else t).advance)

/-- R191, R192, R193, R195: a valid result is answered OK whatever the deadline; an invalid one TIMEOUT once the deadline
has passed, and a retry before. -/
def Obligations.CheckAnswersOrRetries : Prop :=
  ∀ s : State,
    exec .schCheckOk s = .next { s with respKind := .ok, schState := schIDLE, dspState := dspENCODE } ∧
    exec .schCheckTimeout s = .next { s with respKind := .timeout, schState := schIDLE, dspState := dspENCODE } ∧
    exec .schCheckRetry s = .next { s with schState := schSPACE } ∧
    (s.SchTurn → s.schState = schCHECK →
      step s = .next
        (if s.resValid = true then { s with respKind := .ok, schState := schIDLE, dspState := dspENCODE }
        else if s.deadlineMs ≤ s.nowMs then { s with respKind := .timeout, schState := schIDLE, dspState := dspENCODE }
        else { s with schState := schSPACE } : State).advance)

/-! ### The decoder -/

/-- R143, R144: a wake phase drives the line low, then high; it counts WAKE_CNT up to its length, then goes on with WAKE_CNT = 0. -/
def Obligations.WakePhasesCountTheirTicks : Prop :=
  ∀ s : State,
    exec .decWakeLow s = .next (if s.wakeCnt + 1 = s.params.wakeLowUs
      then { s with decState := decWAKEHIGH, wakeCnt := 0 } else { s with wakeCnt := s.wakeCnt + 1 }) ∧
    (s.decState = decWAKELOW → s.gpioOe = true ∧ s.gpioOut = false) ∧
    (s.DecTurn → s.decState = decWAKELOW →
      step s = .next (if s.wakeCnt + 1 = s.params.wakeLowUs
        then { s with decState := decWAKEHIGH, wakeCnt := 0 } else { s with wakeCnt := s.wakeCnt + 1 } : State).advance) ∧
    exec .decWakeHigh s = .next (if s.wakeCnt + 1 = s.params.wakeHighUs
      then { s with decState := decEDGE, wakeCnt := 0 } else { s with wakeCnt := s.wakeCnt + 1 }) ∧
    (s.decState = decWAKEHIGH → s.gpioOe = true ∧ s.gpioOut = true) ∧
    (s.DecTurn → s.decState = decWAKEHIGH →
      step s = .next (if s.wakeCnt + 1 = s.params.wakeHighUs
        then { s with decState := decEDGE, wakeCnt := 0 } else { s with wakeCnt := s.wakeCnt + 1 } : State).advance)

/-- R147: an unchanged sample below the cap counts PULSE_CNT up and does nothing else. -/
def Obligations.UnchangedSampleCounts : Prop :=
  ∀ s : State, s.configured → s.pulseCnt.toNat + 1 < s.params.edgeCap →
    ∃ t, exec .decEdgeHold s = .next t ∧ t.pulseCnt.toNat = s.pulseCnt.toNat + 1 ∧
      t = { s with pulseCnt := t.pulseCnt } ∧
      (s.DecTurn → s.decState = decEDGE → s.pins.gpioIn = s.lastLevel → step s = .next t.advance)

/-- R148: the EDGE_CAP-th unchanged sample sets PULSE_CNT to EDGE_CAP and CAP_HIT to 1 and concludes the attempt. -/
def Obligations.CapConcludes : Prop :=
  ∀ s : State, s.configured → s.pulseCnt.toNat + 1 = s.params.edgeCap →
    ∃ u : State, exec .decEdgeCap s = .next u.conclude ∧ u.pulseCnt.toNat = s.params.edgeCap ∧
      u = { s with pulseCnt := u.pulseCnt, capHit := true } ∧
      (s.DecTurn → s.decState = decEDGE → s.pins.gpioIn = s.lastLevel → step s = .next u.conclude.advance)

/-- R152, R178: `conclude` records the result: NO_BITS below NUM_BITS bits, CHECKSUM on a mismatch, else the Reading; only a valid
result writes RES_HUM and RES_TEMP. It takes the time, releases the decoder and hands over to CHECK. -/
def Obligations.ConcludeRecordsTheResult : Prop :=
  ∀ s : State,
    (s.bitCnt < s.params.numBits →
      s.conclude.resValid = false ∧ s.conclude.resCause = resNOBITS ∧ s.conclude.resHum = s.resHum ∧
        s.conclude.resTemp = s.resTemp) ∧
    (∀ r0 r1 r2 r3 r4 : Byte, s.params.numBits ≤ s.bitCnt → s.raw = [r0, r1, r2, r3, r4] →
      checksumOk ⟨r0, r1, r2, r3, r4⟩ = false →
      s.conclude.resValid = false ∧ s.conclude.resCause = resCHECKSUM ∧ s.conclude.resHum = s.resHum ∧
        s.conclude.resTemp = s.resTemp) ∧
    (∀ r0 r1 r2 r3 r4 : Byte, s.params.numBits ≤ s.bitCnt → s.raw = [r0, r1, r2, r3, r4] →
      checksumOk ⟨r0, r1, r2, r3, r4⟩ = true →
      s.conclude.resValid = true ∧ s.conclude.resCause = resNONE ∧ s.conclude.resHum = humidity ⟨r0, r1, r2, r3, r4⟩ ∧
        s.conclude.resTemp.toInt = temperature ⟨r0, r1, r2, r3, r4⟩) ∧
    (s.params.numBits ≤ s.bitCnt → s.conclude.resValid = false →
      s.conclude.resHum = s.resHum ∧ s.conclude.resTemp = s.resTemp) ∧
    s.conclude.lastReadMs = s.timeUs / 1000 ∧
    s.conclude = { s with
      resValid := s.conclude.resValid, resCause := s.conclude.resCause, resHum := s.conclude.resHum,
      resTemp := s.conclude.resTemp, lastReadMs := s.conclude.lastReadMs, lastReadValid := true, decState := decIDLE,
      schState := schCHECK }

/-- R151, R155, R85: a qualifying falling edge shifts its bit, 1 when the width exceeds the threshold, into the byte BIT_CNT div 8
selects, every other byte unchanged; the MAX_EDGES-th edge concludes. -/
def Obligations.QualifyingEdgeTakesABit : Prop :=
  ∀ s : State, s.bitCnt < s.params.numBits → s.params.numBits = 8 * s.params.rawBytes → s.raw.length = s.params.rawBytes →
    ∃ u : State, ∃ b0 b1 : Byte,
      s.raw[s.bitCnt / 8]? = some b0 ∧ u.raw[s.bitCnt / 8]? = some b1 ∧
      b1.toNat = (b0.toNat * 2 + if s.params.pulseThreshold < s.pulseCnt.toNat then 1 else 0) % 256 ∧
      (∀ k, k ≠ s.bitCnt / 8 → u.raw[k]? = s.raw[k]?) ∧
      u = { s with
        raw := u.raw, bitCnt := s.bitCnt + 1, edgeCnt := s.edgeCnt + 1, lastLevel := false, pulseCnt := 0#8 } ∧
      exec .decEdgeBit s =
        .next (if s.edgeCnt + 1 = s.params.maxEdges then u.conclude else u) ∧
      (s.DecTurn → s.decState = decEDGE → s.lastLevel = true → s.pins.gpioIn = false →
        s.params.preambleEdges ≤ s.edgeCnt →
        step s = .next (if s.edgeCnt + 1 = s.params.maxEdges then u.conclude else u).advance)

/-- R150, R153, R154, R155: a preamble edge, a rising edge and an edge after the last bit count the edge, take its level as the
reference and accumulate nothing; the MAX_EDGES-th concludes. -/
def Obligations.OtherEdgesOnlyCount : Prop :=
  ∀ (s : State) (i : Instr) (level : Bool),
    (i = .decEdgePre ∧ level = s.pins.gpioIn) ∨ (i = .decEdgeRise ∧ level = true) ∨
      (i = .decEdgeExcess ∧ level = false) →
    ∃ u : State, u = { s with edgeCnt := s.edgeCnt + 1, lastLevel := level, pulseCnt := 0#8 } ∧
      exec i s = .next (if s.edgeCnt + 1 = s.params.maxEdges then u.conclude else u) ∧
      (s.DecTurn → decode s.decWord = .ok i →
        step s = .next (if s.edgeCnt + 1 = s.params.maxEdges then u.conclude else u).advance)

/-- R161 (headline): the EDGE phase of an attempt equals R161's function of the samples: the edges it counts, the way it ends,
and the bits and bytes of the qualifying edges, concluded with the validity R152 gives them. -/
def Obligations.EdgePhaseIsTheSamplingLoop : Prop :=
  ∀ (s : State) (l rest : List Inputs) (edges : List EdgeSeen) (how : PhaseEnd),
    s.configured → s.codesLegal = true → s.dspState = dspEXEC → s.schState = schATTEMPT → s.decState = decEDGE →
    s.lastLevel = true → s.pulseCnt = 0#8 → s.edgeCnt = 0 → s.bitCnt = 0 →
    s.raw = List.replicate s.params.rawBytes 0#8 → s.capHit = false →
    s.inputs = l ++ rest → (∀ i ∈ l, i.rst = false) →
    edgePhase s.params (l.map Inputs.gpioIn) = some (edges, how, []) →
    ∃ t, steps l.length s = some t ∧ t.schState = schCHECK ∧ t.decState = decIDLE ∧ t.dspState = dspEXEC ∧
      t.edgeCnt = edges.length ∧ t.bitCnt = (bitsOf s.params edges).length ∧
      t.raw = rawOfBits s.params (bitsOf s.params edges) ∧ t.capHit = decide (how = .cap) ∧
      t.resValid = (decide ((bitsOf s.params edges).length = s.params.numBits) &&
        checksumOk (sampleOf (rawOfBits s.params (bitsOf s.params edges)))) ∧
      t.lastReadValid = true ∧ t.inputs = rest

/-- R158, R190: an attempt always concludes: from its start, within WAKE_LOW_US + WAKE_HIGH_US + MAX_EDGES × EDGE_CAP ticks; in
every tick of it without a reset the bound on the ticks left goes down or the attempt ends. -/
def Obligations.AttemptsConclude : Prop :=
  (∀ s : State, s.decState = decWAKELOW → s.wakeCnt = 0 →
    s.attemptLeft = s.params.wakeLowUs + s.params.wakeHighUs + s.params.maxEdges * s.params.edgeCap) ∧
  (∀ s t : State, s.Control → s.Counters → s.decState ≠ decIDLE → s.pins.rst = false → step s = .next t →
    (t.decState = decIDLE ∧ t.schState = schCHECK) ∨ (t.decState ≠ decIDLE ∧ t.attemptLeft < s.attemptLeft))

/-! ### Invariants that every step keeps -/

/-- R37, R45 (headline): control stays with one sequencer at a time, and no step writes a reserved code. -/
def Obligations.ControlIsKept : Prop :=
  ∀ s t : State, s.Control → step s = .next t → t.Control

/-- R40, R46 to R51, R55 to R58, R61, R66 (headline): every register stays in its width and range. FR_CNT ≤ FR_LEN holds outside
RX_HDR1 and a halt from it, and there too unless FR_CNT counts a frame of 256 bytes or more before; what then is left of it is that
FR_LEN keeps the low prefix byte of that frame (R58, R211; log 20). -/
def Obligations.CountersStayInRange : Prop :=
  (∀ s t : State, s.Control → s.Counters → step s = .next t → t.Counters) ∧
  (∀ s : State, s.Counters → s.insidePrefix = false → s.frCnt ≤ s.frLen) ∧
  (∀ s : State, s.Counters → s.params.lenBytes = 2 →
    (s.frCnt < 256 → s.frCnt ≤ s.frLen) ∧ (s.dspState = dspRXHDR1 → s.frLen % 256 = s.frCnt % 256))

/-- R81, R83 (headline): the buffers keep their canonical form, and every byte the codec and the framer will read stays
written. -/
def Obligations.BuffersStayWritten : Prop :=
  ∀ s t : State, s.Control → s.Counters → s.Buffers → step s = .next t → t.Buffers

/-- R66, R176 (headline): a Reading is only ever that of a raw sample of 40 bits whose checksum holds. -/
def Obligations.ReadingsStayChecked : Prop :=
  ∀ s t : State, s.Control → s.Counters → s.Readings → step s = .next t → t.Readings

/-- R62, R257, R282: the exit registers hold their reset values until HALT, and in HALT the clean stop or a fault with an exit code
that is not 0. -/
def Obligations.ExitStatusIsKept : Prop :=
  ∀ s t : State, s.Control → s.ExitStatus → step s = .next t → t.ExitStatus

/-- R66: while TIME_US does not wrap, LAST_READ_MS ≤ now_ms is kept, and without a reset LAST_READ_MS never decreases. -/
def Obligations.LastReadNeverDecreases : Prop :=
  ∀ s t : State, s.ClockOrder → s.timeUs + 1 < 2 ^ s.params.timeW → step s = .next t →
    t.ClockOrder ∧ (s.pins.rst = false → s.lastReadMs ≤ t.lastReadMs)

/-- R100, R280 (headline): every safe state whose RX_BUF holds every payload its length prefix can say, as the default's does, has a
next state that is safe again, under the default codec and every lawful one; so with the safety of the reset state no fault and no
refusal of the model is met in a run from reset, whatever the inputs. -/
def Obligations.SafeStatesNeverStop : Prop :=
  (∀ (p : Params) (l : List Inputs), p.legal = true → ({ State.resetOf p with inputs := l } : State).Safe) ∧
  Params.default.legal = true ∧ Params.default.roomy ∧
  ∀ s : State, s.Safe → s.params.roomy → ∃ t, step s = .next t ∧ t.Safe ∧ t.params = s.params

/-! ### Rules of the whole block -/

/-- R33 to R35, R145, R225, R256, R274, R276: the outputs follow the state. The line is driven in WAKE_LOW and WAKE_HIGH only, so it is
released in IDLE and EDGE, and under R37's discipline outside EXEC; a byte is taken in the RX states only and offered in TX only;
`out_byte` is 0 outside TX; in HALT every one of them is fixed. -/
def Obligations.OutputsFollowTheState : Prop :=
  ∀ s : State,
    (s.gpioOe = true ↔ s.decState = decWAKELOW ∨ s.decState = decWAKEHIGH) ∧
    (s.gpioOut = true ↔ s.decState = decWAKEHIGH) ∧
    (s.inReady = true ↔ s.dspState = dspRXHDR0 ∨ s.dspState = dspRXHDR1 ∨ s.dspState = dspRXPAY) ∧
    (s.outValid = true ↔ s.dspState = dspTX) ∧
    (s.dspState ≠ dspTX → s.outByte = .ok 0#8) ∧
    (s.halted = true ↔ s.dspState = dspHALT) ∧
    (s.decState = decIDLE ∨ s.decState = decEDGE → s.gpioOe = false ∧ s.gpioOut = false) ∧
    (s.Control → s.dspState ≠ dspEXEC → s.gpioOe = false ∧ s.gpioOut = false) ∧
    (s.Control → s.dspState = dspHALT →
      s.outputs =
        { gpioOe := false, gpioOut := false, inReady := false, outValid := false, outByte := .ok 0#8, halted := true,
          exitCode := s.exitCode, faultCause := s.faultCause })

/-- R253, R276, R279: HALT is terminal: with no reset, no input changes any register but the tick count. -/
def Obligations.HaltIsTerminal : Prop :=
  ∀ (n : Nat) (s : State), s.Control → s.dspState = dspHALT → n ≤ s.inputs.length →
    (∀ i ∈ s.inputs.take n, i.rst = false) →
    ∃ t, steps n s = some t ∧ t = { s with timeUs := t.timeUs, inputs := s.inputs.drop n, draws := s.draws + n }

/-- R34, R89, R225: a request byte is consumed only in a tick with `in_valid` = `in_ready` = 1, and a response byte is handed over
only in one with `out_valid` = `out_ready` = 1; each tick moves at most one of each (the streams are kept as lists, log 14). -/
def Obligations.TransfersNeedTheHandshake : Prop :=
  ∀ s t : State, step s = .next t →
    (t.accepted = s.accepted ∨
      (s.inReady = true ∧ s.pins.inValid = true ∧ s.pins.inErr = false ∧ t.accepted = s.accepted ++ [s.pins.inByte])) ∧
    (t.emitted = s.emitted ∨
      (s.outValid = true ∧ s.pins.outReady = true ∧ s.pins.outErr = false ∧
        ∃ b, s.outByte = .ok b ∧ t.emitted = s.emitted ++ [b]))

/-- R54, R176, R178: without a reset, RES_HUM and RES_TEMP change only in a tick whose attempt concludes valid. -/
def Obligations.ReadingChangesOnlyWhenValid : Prop :=
  ∀ s t : State, step s = .next t → s.pins.rst = false → (t.resHum ≠ s.resHum ∨ t.resTemp ≠ s.resTemp) →
    s.decState = decEDGE ∧ t.resValid = true ∧ t.resCause = resNONE ∧ t.resHum = humidity (sampleOf t.raw) ∧
      checksumOk (sampleOf t.raw) = true ∧ t.lastReadValid = true

/-- R32, R141, R201, R271, R276, R307: the inputs a state does not read do not matter: two ticks' inputs that agree on `rst` and, in
a tick without a reset, on the ports the state reads (`init_fail` in INIT; in the RX states `in_err`, then `in_valid`, then the byte
that is taken or `in_eof`; in TX `out_err`, then `out_ready`; the line in EDGE) give the same step. -/
def Obligations.UnreadInputsDoNotMatter : Prop :=
  ∀ (s : State) (i j : Inputs), s.ReadsSame i j →
    step { s with inputs := i :: s.inputs } = step { s with inputs := j :: s.inputs }

/-- R12, R300: the parameters never change. -/
def Obligations.ParametersAreFixed : Prop :=
  ∀ s t : State, step s = .next t → t.params = s.params
end

