-- ==== Sys2Proof/Laws/Decode.lean ====
section
/-!
SUPPORT. The laws of decoding: what a vector built from its fields decodes to, and byte-order lemmas.
-/

namespace Sys2Proof

/-! ### The fields of a vector -/

section

variable (a b c d e f : Bool)

@[simp] theorem dspVector_code (k : BitVec 4) : (dspVector k a b c d e f).extractLsb' 6 4 = k := by
  revert k a b c d e f; decide

@[simp] theorem dspVector_initFail (k : BitVec 4) : (dspVector k a b c d e f).getLsbD 5 = a := by
  revert k a b c d e f; decide

@[simp] theorem dspVector_inErr (k : BitVec 4) : (dspVector k a b c d e f).getLsbD 4 = b := by
  revert k a b c d e f; decide

@[simp] theorem dspVector_inValid (k : BitVec 4) : (dspVector k a b c d e f).getLsbD 3 = c := by
  revert k a b c d e f; decide

@[simp] theorem dspVector_inEof (k : BitVec 4) : (dspVector k a b c d e f).getLsbD 2 = d := by
  revert k a b c d e f; decide

@[simp] theorem dspVector_outErr (k : BitVec 4) : (dspVector k a b c d e f).getLsbD 1 = e := by
  revert k a b c d e f; decide

@[simp] theorem dspVector_outReady (k : BitVec 4) : (dspVector k a b c d e f).getLsbD 0 = f := by
  revert k a b c d e f; decide

@[simp] theorem schVector_code (k : BitVec 3) : (schVector k a b c).extractLsb' 3 3 = k := by
  revert k a b c; decide

@[simp] theorem schVector_w (k : BitVec 3) : (schVector k a b c).getLsbD 2 = a := by revert k a b c; decide

@[simp] theorem schVector_v (k : BitVec 3) : (schVector k a b c).getLsbD 1 = b := by revert k a b c; decide

@[simp] theorem schVector_d (k : BitVec 3) : (schVector k a b c).getLsbD 0 = c := by revert k a b c; decide

@[simp] theorem decVector_code (k : BitVec 2) : (decVector k a b c d e).extractLsb' 5 2 = k := by
  revert k a b c d e; decide

@[simp] theorem decVector_e (k : BitVec 2) : (decVector k a b c d e).getLsbD 4 = a := by revert k a b c d e; decide

@[simp] theorem decVector_c (k : BitVec 2) : (decVector k a b c d e).getLsbD 3 = b := by revert k a b c d e; decide

@[simp] theorem decVector_p (k : BitVec 2) : (decVector k a b c d e).getLsbD 2 = c := by revert k a b c d e; decide

@[simp] theorem decVector_s (k : BitVec 2) : (decVector k a b c d e).getLsbD 1 = d := by revert k a b c d e; decide

@[simp] theorem decVector_b (k : BitVec 2) : (decVector k a b c d e).getLsbD 0 = e := by revert k a b c d e; decide

end

/-! ### Byte order -/

namespace Machine

/-- BE16 as a number: hi × 256 + lo (R12). -/
theorem be16_toNat (hi lo : Byte) : (be16 hi lo).toNat = hi.toNat * 256 + lo.toNat := by
  unfold be16
  rw [BitVec.toNat_append, ← Nat.shiftLeft_add_eq_or_of_lt lo.isLt, Nat.shiftLeft_eq]

/-- BE32 as a number (R12). -/
theorem be32_toNat (b0 b1 b2 b3 : Byte) :
    (be32 b0 b1 b2 b3).toNat = ((b0.toNat * 256 + b1.toNat) * 256 + b2.toNat) * 256 + b3.toNat := by
  have h0 := be16_toNat b0 b1
  have h1 := be16_toNat b2 b3
  unfold be16 at h0 h1
  unfold be32
  rw [BitVec.toNat_append, ← Nat.shiftLeft_add_eq_or_of_lt (b2 ++ b3).isLt, Nat.shiftLeft_eq, h0, h1]
  omega

@[simp] theorem lenPrefix_length (len n : Nat) : (lenPrefix len n).length = len := by simp [lenPrefix]

theorem lenByte_toNat (len n k : Nat) : (lenByte len n k).toNat = n / 256 ^ (len - 1 - k) % 256 := by simp [lenByte]

/-- The two bytes of the default prefix (20_memory.md R84). -/
theorem lenPrefix_two (n : Nat) : lenPrefix 2 n = [BitVec.ofNat 8 (n / 256), BitVec.ofNat 8 n] := by
  simp [lenPrefix, lenByte, List.range_succ]

theorem beNat_append_singleton (bs : List Byte) (b : Byte) : beNat (bs ++ [b]) = 256 * beNat bs + b.toNat := by
  simp [beNat]

/-- A prefix of one more byte: the prefix of the high part, then the low byte. -/
theorem lenPrefix_succ (len n : Nat) : lenPrefix (len + 1) n = lenPrefix len (n / 256) ++ [BitVec.ofNat 8 n] := by
  simp only [lenPrefix, List.range_succ, List.map_append, List.map_cons, List.map_nil]
  congr 1
  · refine List.map_congr_left fun k hk => ?_
    have hk := List.mem_range.1 hk
    simp only [lenByte, Nat.div_div_eq_div_mul, ← Nat.pow_succ']
    rw [show (len - 1 - k).succ = len + 1 - 1 - k by omega]
  · simp [lenByte]

/-- The number a length prefix says, where it can say it. -/
theorem beNat_lenPrefix : ∀ {len n : Nat}, n < 256 ^ len → beNat (lenPrefix len n) = n := by
  intro len
  induction len with
  | zero => intro n h; obtain rfl : n = 0 := by simpa using h
            rfl
  | succ len ih =>
    intro n h
    rw [Nat.pow_succ] at h
    rw [lenPrefix_succ, beNat_append_singleton, ih (by omega)]
    simp
    omega

/-- The last byte of a number replaced (43_framer.md R212). -/
theorem setByte_zero (n : Nat) (b : Byte) : setByte n 0 b = n / 256 * 256 + b.toNat := by simp [setByte, Nat.mod_one]

/-- A byte of a number replaced: the part above it, with the byte, read as one number. -/
theorem setByte_div (n j : Nat) (b : Byte) : setByte n j b / 256 ^ j = n / 256 ^ (j + 1) * 256 + b.toNat := by
  have h : n % 256 ^ j < 256 ^ j := Nat.mod_lt _ (by positivity)
  rw [setByte, Nat.pow_succ, show n / (256 ^ j * 256) * (256 ^ j * 256) + b.toNat * 256 ^ j + n % 256 ^ j =
    n % 256 ^ j + (n / (256 ^ j * 256) * 256 + b.toNat) * 256 ^ j by ring, Nat.add_mul_div_right _ _ (by positivity),
    Nat.div_eq_of_lt h, Nat.zero_add]

/-- A byte of a number replaced: the part below it. -/
theorem setByte_mod (n j : Nat) (b : Byte) : setByte n j b % 256 ^ j = n % 256 ^ j := by
  rw [setByte, Nat.pow_succ, show n / (256 ^ j * 256) * (256 ^ j * 256) + b.toNat * 256 ^ j + n % 256 ^ j =
    n % 256 ^ j + (n / (256 ^ j * 256) * 256 + b.toNat) * 256 ^ j by ring, Nat.add_mul_mod_self_right, Nat.mod_mod]

/-- A number with a byte replaced keeps its width. -/
theorem setByte_lt {n j w : Nat} (b : Byte) (hj : j < w) (hn : n < 256 ^ w) : setByte n j b < 256 ^ w := by
  obtain ⟨k, rfl⟩ : ∃ k, w = j + 1 + k := ⟨w - (j + 1), by omega⟩
  have hb := b.isLt
  have h1 : n / 256 ^ (j + 1) < 256 ^ k := Nat.div_lt_of_lt_mul (by rw [← Nat.pow_add]; exact hn)
  have h2 : setByte n j b / 256 ^ j < 256 ^ (1 + k) := by
    rw [setByte_div, Nat.add_comm 1 k, Nat.pow_succ]
    calc n / 256 ^ (j + 1) * 256 + b.toNat < (n / 256 ^ (j + 1) + 1) * 256 := by omega
      _ ≤ 256 ^ k * 256 := Nat.mul_le_mul_right _ h1
  rw [Nat.div_lt_iff_lt_mul (by positivity), ← Nat.pow_add] at h2
  rwa [show 1 + k + j = j + 1 + k by omega] at h2

/-- The four bytes of a 32-bit value, put together again, are the value. -/
theorem be32_bytes32 (x : BitVec 32) :
    be32 (x.extractLsb' 24 8) (x.extractLsb' 16 8) (x.extractLsb' 8 8) (x.extractLsb' 0 8) = x := by
  apply BitVec.eq_of_toNat_eq
  have := x.isLt
  rw [be32_toNat]
  simp only [BitVec.extractLsb'_toNat, Nat.shiftRight_eq_div_pow]
  omega

end Machine

end Sys2Proof
end

