-- ==== Sys2Proof/Laws/Memory.lean ====
section
/-!
SUPPORT. The laws of the buffers: a read after a write, and that every memory operation keeps the canonical form.
-/

namespace Sys2Proof.Machine

/-! ### Read after write -/

@[simp] theorem Memory.read_nil (i : Nat) : Memory.read [] i = none := rfl

@[simp] theorem Memory.read_write_same (m : Memory) (i : Nat) (b : Byte) : (m.write i b).read i = some b := by
  induction m with
  | nil => simp [Memory.write, Memory.read]
  | cons c m ih =>
    obtain ⟨a, v⟩ := c
    by_cases h : i < a
    · simp [Memory.write, Memory.read, h]
    · by_cases e : i = a
      · simp [Memory.write, Memory.read, e]
      · simp [Memory.write, Memory.read, h, e, ih]

theorem Memory.read_write_other (m : Memory) {i j : Nat} (b : Byte) (h : j ≠ i) : (m.write i b).read j = m.read j := by
  induction m with
  | nil => simp [Memory.write, Memory.read, h]
  | cons c m ih =>
    obtain ⟨a, v⟩ := c
    by_cases hl : i < a
    · simp [Memory.write, Memory.read, hl, h]
    · by_cases e : i = a
      · subst e; simp [Memory.write, Memory.read, h]
      · simp [Memory.write, Memory.read, hl, e, ih]

/-! ### The canonical form -/

theorem Memory.wf_iff {size : Nat} {m : Memory} :
    m.wf size = true ↔ (m.map Prod.fst).Pairwise (· < ·) ∧ ∀ c ∈ m, c.1 < size := by
  simp [Memory.wf]

@[simp] theorem Memory.wf_nil (size : Nat) : Memory.wf size [] = true := by simp [Memory.wf]

theorem Memory.mem_write {m : Memory} {i : Nat} {b : Byte} {c : Host.Cell} (h : c ∈ m.write i b) : c = (i, b) ∨ c ∈ m := by
  induction m with
  | nil => simpa [Memory.write] using h
  | cons d m ih =>
    obtain ⟨a, v⟩ := d
    unfold Memory.write at h
    split at h
    · simpa using h
    · split at h
      · rcases List.mem_cons.1 h with h | h
        · exact .inl h
        · exact .inr (List.mem_cons_of_mem _ h)
      · rcases List.mem_cons.1 h with h | h
        · exact .inr (h ▸ List.mem_cons_self)
        · exact (ih h).imp_right (List.mem_cons_of_mem _)

theorem Memory.write_wf {size : Nat} {m : Memory} {i : Nat} (b : Byte) (hm : m.wf size = true) (hi : i < size) :
    (m.write i b).wf size = true := by
  rw [Memory.wf_iff] at hm ⊢
  refine ⟨?_, fun c hc => (Memory.mem_write hc).elim (fun e => e ▸ hi) (hm.2 c)⟩
  obtain ⟨hp, -⟩ := hm
  induction m with
  | nil => simp [Memory.write]
  | cons d m ih =>
    obtain ⟨a, v⟩ := d
    simp only [List.map_cons, List.pairwise_cons] at hp
    unfold Memory.write
    split
    · rename_i h
      simp only [List.map_cons, List.pairwise_cons, List.mem_cons, forall_eq_or_imp]
      exact ⟨⟨h, fun x hx => h.trans (hp.1 x hx)⟩, hp⟩
    · split
      · rename_i e; subst e
        simpa [List.pairwise_cons] using hp
      · rename_i h1 h2
        simp only [List.map_cons, List.pairwise_cons]
        refine ⟨fun x hx => ?_, ih hp.2⟩
        obtain ⟨c, hc, rfl⟩ := List.mem_map.1 hx
        rcases Memory.mem_write hc with e | e
        · subst e; simp only; omega
        · exact hp.1 _ (List.mem_map_of_mem e)

/-! ### What MemRead and MemWrite answer -/

theorem memRead_ok {size : Nat} {free : Nat → Byte} {m : Memory} {i : Nat} {b : Byte} :
    memRead size free m i = .ok b ↔ i < size ∧ m.byte free i = b := by
  unfold memRead
  split <;> simp_all

/-- A written byte reads as it was written. -/
theorem Memory.byte_of_read {free : Nat → Byte} {m : Memory} {i : Nat} {b : Byte} (h : m.read i = some b) :
    m.byte free i = b := by simp [Memory.byte, h]

/-- A byte nothing has written reads as the free one (log 6). -/
theorem Memory.byte_of_unwritten {free : Nat → Byte} {m : Memory} {i : Nat} (h : m.read i = none) :
    m.byte free i = free i := by simp [Memory.byte, h]

theorem memWrite_ok {size : Nat} {m m' : Memory} {i : Nat} {b : Byte} :
    memWrite size m i b = .ok m' ↔ i < size ∧ m' = m.write i b := by
  unfold memWrite
  split <;> simp_all [eq_comm]

theorem memWrite_wf {size : Nat} {m m' : Memory} {i : Nat} {b : Byte} (h : memWrite size m i b = .ok m')
    (hm : m.wf size = true) : m'.wf size = true := by
  obtain ⟨hi, rfl⟩ := memWrite_ok.1 h
  exact Memory.write_wf b hm hi

theorem memWriteRange_wf {size : Nat} {bs : List Byte} : ∀ {m m' : Memory} {i : Nat},
    memWriteRange size m i bs = .ok m' → m.wf size = true → m'.wf size = true := by
  induction bs with
  | nil => intro m m' i h hm; simp only [memWriteRange, Except.ok.injEq] at h; exact h ▸ hm
  | cons b bs ih =>
    intro m m' i h hm
    unfold memWriteRange at h
    split at h
    · cases h
    · rename_i m1 h1; exact ih h (memWrite_wf h1 hm)

/-- A range write that fits answers a buffer holding the bytes, and every other byte as before. -/
theorem memWriteRange_of_le {size : Nat} {bs : List Byte} : ∀ {m : Memory} {i : Nat}, i + bs.length ≤ size →
    ∃ m', memWriteRange size m i bs = .ok m' ∧ (∀ k (h : k < bs.length), m'.read (i + k) = some bs[k]) ∧
      ∀ a, (a < i ∨ i + bs.length ≤ a) → m'.read a = m.read a := by
  induction bs with
  | nil => intro m i _; exact ⟨m, rfl, fun k h => absurd h (by simp), fun _ _ => rfl⟩
  | cons b bs ih =>
    intro m i hle
    simp only [List.length_cons] at hle
    have hi : i < size := by omega
    obtain ⟨m', h1, h2, h3⟩ := ih (m := m.write i b) (i := i + 1) (by omega)
    refine ⟨m', by simp [memWriteRange, memWrite, hi, h1], fun k hk => ?_, fun a ha => ?_⟩
    · cases k with
      | zero => rw [Nat.add_zero, h3 i (.inl (by omega))]; simp
      | succ k => simpa [Nat.add_assoc, Nat.add_comm 1] using h2 k (by simpa using hk)
    · simp only [List.length_cons] at ha
      rw [h3 a (by omega), Memory.read_write_other _ _ (by omega)]

/-- A range write past the end of the buffer faults. -/
theorem memWriteRange_of_lt {size : Nat} {bs : List Byte} : ∀ {m : Memory} {i : Nat}, i ≤ size → size < i + bs.length →
    memWriteRange size m i bs = .error (.noSuchIndex size) := by
  induction bs with
  | nil => intro m i h1 h2; simp at h2; omega
  | cons b bs ih =>
    intro m i h1 h2
    simp only [List.length_cons] at h2
    by_cases hi : i < size
    · simp [memWriteRange, memWrite, hi, ih (m := m.write i b) (i := i + 1) (by omega) (by omega)]
    · obtain rfl : i = size := by omega
      simp [memWriteRange, memWrite]

/-- A range read inside the buffer answers its bytes. -/
theorem memReadRange_of_le {size : Nat} {free : Nat → Byte} {m : Memory} : ∀ {n i : Nat}, i + n ≤ size →
    memReadRange size free m i n = .ok ((List.range' i n).map (m.byte free)) := by
  intro n
  induction n with
  | zero => intro i _; rfl
  | succ n ih =>
    intro i h
    have h0 : memRead size free m i = .ok (m.byte free i) := memRead_ok.2 ⟨by omega, rfl⟩
    simp [memReadRange, h0, ih (i := i + 1) (by omega), List.range'_succ]

/-- A range read of written bytes answers them. -/
theorem memReadRange_ok {size : Nat} {free : Nat → Byte} {m : Memory} {bs : List Byte} : ∀ {i : Nat}, i + bs.length ≤ size →
    (∀ k (h : k < bs.length), m.read (i + k) = some bs[k]) → memReadRange size free m i bs.length = .ok bs := by
  induction bs with
  | nil => intro i _ _; rfl
  | cons b bs ih =>
    intro i hle h
    simp only [List.length_cons] at hle ⊢
    have h0 : memRead size free m i = .ok b := memRead_ok.2 ⟨by omega, Memory.byte_of_read (h 0 (by simp))⟩
    have h1 := ih (i := i + 1) (by omega) fun k hk => by
      have hk' := h (k + 1) (by simpa using hk)
      rwa [show i + (k + 1) = i + 1 + k by omega] at hk'
    simp [memReadRange, h0, h1]

/-- A range read past the end of the buffer faults. -/
theorem memReadRange_of_lt {size : Nat} {free : Nat → Byte} {m : Memory} : ∀ {n i : Nat}, i ≤ size → size < i + n →
    memReadRange size free m i n = .error (.noSuchIndex size) := by
  intro n
  induction n with
  | zero => intro i h1 h2; omega
  | succ n ih =>
    intro i h1 h2
    by_cases hi : i < size
    · have h0 : memRead size free m i = .ok (m.byte free i) := memRead_ok.2 ⟨hi, rfl⟩
      simp [memReadRange, h0, ih (i := i + 1) (by omega) (by omega)]
    · obtain rfl : i = size := by omega
      simp [memReadRange, memRead]

/-- A range read depends only on the bytes of its range. -/
theorem memReadRange_congr {size : Nat} {free : Nat → Byte} {m m' : Memory} : ∀ {n i : Nat},
    (∀ a, i ≤ a → a < i + n → m'.read a = m.read a) → memReadRange size free m' i n = memReadRange size free m i n := by
  intro n
  induction n with
  | zero => intro i _; rfl
  | succ n ih =>
    intro i h
    have h0 : memRead size free m' i = memRead size free m i := by simp [memRead, Memory.byte, h i (by omega) (by omega)]
    simp [memReadRange, h0, ih (i := i + 1) fun a h1 h2 => h a (by omega) (by omega)]

end Sys2Proof.Machine
end

