-- ==== Sys2Proof/Laws/PerInstr.lean ====
section
/-!
SUPPORT. One family made per instruction: TableRow, every well-formed instruction's encoding has the fixed bits of its row
of opcode_table.json.
-/

namespace Sys2Proof.Laws.TableRow

/-- The encoding of a well-formed instruction has the fixed bits and fields of its row. -/
abbrev Statement (i : Instr) : Prop := i.wellFormed = true → matchesRow i (encode i) = true

theorem dspInitFail : Statement .dspInitFail := by decide
theorem dspInitOk : Statement .dspInitOk := by decide
theorem frRxErr (nn : RxState) : Statement (.frRxErr nn) := by cases nn <;> decide
theorem frRxHdr0 : Statement .frRxHdr0 := by decide
theorem frRxHdr1 : Statement .frRxHdr1 := by decide
theorem frRxPay : Statement .frRxPay := by decide
theorem frRxEof (nn : RxState) : Statement (.frRxEof nn) := by cases nn <;> decide
theorem frRxStall (nn : RxState) : Statement (.frRxStall nn) := by cases nn <;> decide
theorem dspDecodeOk : Statement .dspDecodeOk := by decide
theorem dspDecodeFault : Statement .dspDecodeFault := by decide
theorem dspExec : Statement .dspExec := by decide
theorem dspEncode : Statement .dspEncode := by decide
theorem frTxErr : Statement .frTxErr := by decide
theorem frTxByte : Statement .frTxByte := by decide
theorem frTxStall : Statement .frTxStall := by decide
theorem dspHalt : Statement .dspHalt := by decide
theorem schIdle : Statement .schIdle := by decide
theorem schStart : Statement .schStart := by decide
theorem schSpaceWait : Statement .schSpaceWait := by decide
theorem schSpaceGo : Statement .schSpaceGo := by decide
theorem schAttempt : Statement .schAttempt := by decide
theorem schCheckOk : Statement .schCheckOk := by decide
theorem schCheckTimeout : Statement .schCheckTimeout := by decide
theorem schCheckRetry : Statement .schCheckRetry := by decide
theorem decIdle : Statement .decIdle := by decide
theorem decWakeLow : Statement .decWakeLow := by decide
theorem decWakeHigh : Statement .decWakeHigh := by decide
theorem decEdgeCap : Statement .decEdgeCap := by decide
theorem decEdgeHold : Statement .decEdgeHold := by decide
theorem decEdgePre : Statement .decEdgePre := by decide
theorem decEdgeBit : Statement .decEdgeBit := by decide
theorem decEdgeExcess : Statement .decEdgeExcess := by decide
theorem decEdgeRise : Statement .decEdgeRise := by decide
theorem frame (p : List Byte) : Statement (.frame p) := by
  intro _; simp [matchesRow, encode, frameBytes, Machine.lenPrefix_two]
theorem msgRead (t : BitVec 32) : Statement (.msgRead t) := by
  intro _; rfl
theorem msgOk (h v : BitVec 16) : Statement (.msgOk h v) := by
  intro _; rfl
theorem msgTimeout : Statement .msgTimeout := by decide

end Sys2Proof.Laws.TableRow
end

