-- ==== Sys2Proof/Laws/State.lean ====
section
/-!
SUPPORT. The small lemmas of State: what each named update leaves in each field, so that no proof unfolds a record update.
-/

namespace Sys2Proof.Machine

section

variable (s : State) (c : Cause)

@[simp] theorem State.raiseFault_timeUs : (s.raiseFault c).timeUs = s.timeUs := rfl
@[simp] theorem State.raiseFault_dspState : (s.raiseFault c).dspState = dspHALT := rfl
@[simp] theorem State.raiseFault_schState : (s.raiseFault c).schState = s.schState := rfl
@[simp] theorem State.raiseFault_decState : (s.raiseFault c).decState = s.decState := rfl
@[simp] theorem State.raiseFault_wakeCnt : (s.raiseFault c).wakeCnt = s.wakeCnt := rfl
@[simp] theorem State.raiseFault_lastLevel : (s.raiseFault c).lastLevel = s.lastLevel := rfl
@[simp] theorem State.raiseFault_pulseCnt : (s.raiseFault c).pulseCnt = s.pulseCnt := rfl
@[simp] theorem State.raiseFault_edgeCnt : (s.raiseFault c).edgeCnt = s.edgeCnt := rfl
@[simp] theorem State.raiseFault_bitCnt : (s.raiseFault c).bitCnt = s.bitCnt := rfl
@[simp] theorem State.raiseFault_raw : (s.raiseFault c).raw = s.raw := rfl
@[simp] theorem State.raiseFault_capHit : (s.raiseFault c).capHit = s.capHit := rfl
@[simp] theorem State.raiseFault_resValid : (s.raiseFault c).resValid = s.resValid := rfl
@[simp] theorem State.raiseFault_resCause : (s.raiseFault c).resCause = s.resCause := rfl
@[simp] theorem State.raiseFault_resHum : (s.raiseFault c).resHum = s.resHum := rfl
@[simp] theorem State.raiseFault_resTemp : (s.raiseFault c).resTemp = s.resTemp := rfl
@[simp] theorem State.raiseFault_lastReadValid : (s.raiseFault c).lastReadValid = s.lastReadValid := rfl
@[simp] theorem State.raiseFault_lastReadMs : (s.raiseFault c).lastReadMs = s.lastReadMs := rfl
@[simp] theorem State.raiseFault_deadlineMs : (s.raiseFault c).deadlineMs = s.deadlineMs := rfl
@[simp] theorem State.raiseFault_timeoutMs : (s.raiseFault c).timeoutMs = s.timeoutMs := rfl
@[simp] theorem State.raiseFault_frLen : (s.raiseFault c).frLen = s.frLen := rfl
@[simp] theorem State.raiseFault_frCnt : (s.raiseFault c).frCnt = s.frCnt := rfl
@[simp] theorem State.raiseFault_rxBuf : (s.raiseFault c).rxBuf = s.rxBuf := rfl
@[simp] theorem State.raiseFault_respKind : (s.raiseFault c).respKind = s.respKind := rfl
@[simp] theorem State.raiseFault_txBuf : (s.raiseFault c).txBuf = s.txBuf := rfl
@[simp] theorem State.raiseFault_txLen : (s.raiseFault c).txLen = s.txLen := rfl
@[simp] theorem State.raiseFault_txCnt : (s.raiseFault c).txCnt = s.txCnt := rfl
@[simp] theorem State.raiseFault_exitCode : (s.raiseFault c).exitCode = s.params.faultExit := rfl
@[simp] theorem State.raiseFault_faultCause : (s.raiseFault c).faultCause = causeCode c := rfl
@[simp] theorem State.raiseFault_params : (s.raiseFault c).params = s.params := rfl
@[simp] theorem State.raiseFault_inputs : (s.raiseFault c).inputs = s.inputs := rfl
@[simp] theorem State.raiseFault_draws : (s.raiseFault c).draws = s.draws := rfl
@[simp] theorem State.raiseFault_bufDraw : (s.raiseFault c).bufDraw = s.bufDraw := rfl
@[simp] theorem State.raiseFault_hdrCnt : (s.raiseFault c).hdrCnt = s.hdrCnt := rfl
@[simp] theorem State.raiseFault_accepted : (s.raiseFault c).accepted = s.accepted := rfl
@[simp] theorem State.raiseFault_emitted : (s.raiseFault c).emitted = s.emitted := rfl

end

section

variable (s : State)

@[simp] theorem State.stopClean_timeUs : (s.stopClean).timeUs = s.timeUs := rfl
@[simp] theorem State.stopClean_dspState : (s.stopClean).dspState = dspHALT := rfl
@[simp] theorem State.stopClean_schState : (s.stopClean).schState = s.schState := rfl
@[simp] theorem State.stopClean_decState : (s.stopClean).decState = s.decState := rfl
@[simp] theorem State.stopClean_wakeCnt : (s.stopClean).wakeCnt = s.wakeCnt := rfl
@[simp] theorem State.stopClean_lastLevel : (s.stopClean).lastLevel = s.lastLevel := rfl
@[simp] theorem State.stopClean_pulseCnt : (s.stopClean).pulseCnt = s.pulseCnt := rfl
@[simp] theorem State.stopClean_edgeCnt : (s.stopClean).edgeCnt = s.edgeCnt := rfl
@[simp] theorem State.stopClean_bitCnt : (s.stopClean).bitCnt = s.bitCnt := rfl
@[simp] theorem State.stopClean_raw : (s.stopClean).raw = s.raw := rfl
@[simp] theorem State.stopClean_capHit : (s.stopClean).capHit = s.capHit := rfl
@[simp] theorem State.stopClean_resValid : (s.stopClean).resValid = s.resValid := rfl
@[simp] theorem State.stopClean_resCause : (s.stopClean).resCause = s.resCause := rfl
@[simp] theorem State.stopClean_resHum : (s.stopClean).resHum = s.resHum := rfl
@[simp] theorem State.stopClean_resTemp : (s.stopClean).resTemp = s.resTemp := rfl
@[simp] theorem State.stopClean_lastReadValid : (s.stopClean).lastReadValid = s.lastReadValid := rfl
@[simp] theorem State.stopClean_lastReadMs : (s.stopClean).lastReadMs = s.lastReadMs := rfl
@[simp] theorem State.stopClean_deadlineMs : (s.stopClean).deadlineMs = s.deadlineMs := rfl
@[simp] theorem State.stopClean_timeoutMs : (s.stopClean).timeoutMs = s.timeoutMs := rfl
@[simp] theorem State.stopClean_frLen : (s.stopClean).frLen = s.frLen := rfl
@[simp] theorem State.stopClean_frCnt : (s.stopClean).frCnt = s.frCnt := rfl
@[simp] theorem State.stopClean_rxBuf : (s.stopClean).rxBuf = s.rxBuf := rfl
@[simp] theorem State.stopClean_respKind : (s.stopClean).respKind = s.respKind := rfl
@[simp] theorem State.stopClean_txBuf : (s.stopClean).txBuf = s.txBuf := rfl
@[simp] theorem State.stopClean_txLen : (s.stopClean).txLen = s.txLen := rfl
@[simp] theorem State.stopClean_txCnt : (s.stopClean).txCnt = s.txCnt := rfl
@[simp] theorem State.stopClean_exitCode : (s.stopClean).exitCode = 0#8 := rfl
@[simp] theorem State.stopClean_faultCause : (s.stopClean).faultCause = 0#4 := rfl
@[simp] theorem State.stopClean_params : (s.stopClean).params = s.params := rfl
@[simp] theorem State.stopClean_inputs : (s.stopClean).inputs = s.inputs := rfl
@[simp] theorem State.stopClean_draws : (s.stopClean).draws = s.draws := rfl
@[simp] theorem State.stopClean_bufDraw : (s.stopClean).bufDraw = s.bufDraw := rfl
@[simp] theorem State.stopClean_hdrCnt : (s.stopClean).hdrCnt = s.hdrCnt := rfl
@[simp] theorem State.stopClean_accepted : (s.stopClean).accepted = s.accepted := rfl
@[simp] theorem State.stopClean_emitted : (s.stopClean).emitted = s.emitted := rfl

end

section

variable (s : State)

@[simp] theorem State.resetTick_timeUs : (s.resetTick).timeUs = 0 := rfl
@[simp] theorem State.resetTick_dspState : (s.resetTick).dspState = 0 := rfl
@[simp] theorem State.resetTick_schState : (s.resetTick).schState = 0 := rfl
@[simp] theorem State.resetTick_decState : (s.resetTick).decState = 0 := rfl
@[simp] theorem State.resetTick_wakeCnt : (s.resetTick).wakeCnt = 0 := rfl
@[simp] theorem State.resetTick_lastLevel : (s.resetTick).lastLevel = true := rfl
@[simp] theorem State.resetTick_pulseCnt : (s.resetTick).pulseCnt = 0 := rfl
@[simp] theorem State.resetTick_edgeCnt : (s.resetTick).edgeCnt = 0 := rfl
@[simp] theorem State.resetTick_bitCnt : (s.resetTick).bitCnt = 0 := rfl
@[simp] theorem State.resetTick_raw : (s.resetTick).raw = List.replicate s.params.rawBytes 0 := rfl
@[simp] theorem State.resetTick_capHit : (s.resetTick).capHit = false := rfl
@[simp] theorem State.resetTick_resValid : (s.resetTick).resValid = false := rfl
@[simp] theorem State.resetTick_resCause : (s.resetTick).resCause = 0 := rfl
@[simp] theorem State.resetTick_resHum : (s.resetTick).resHum = 0 := rfl
@[simp] theorem State.resetTick_resTemp : (s.resetTick).resTemp = 0 := rfl
@[simp] theorem State.resetTick_lastReadValid : (s.resetTick).lastReadValid = false := rfl
@[simp] theorem State.resetTick_lastReadMs : (s.resetTick).lastReadMs = 0 := rfl
@[simp] theorem State.resetTick_deadlineMs : (s.resetTick).deadlineMs = 0 := rfl
@[simp] theorem State.resetTick_timeoutMs : (s.resetTick).timeoutMs = 0 := rfl
@[simp] theorem State.resetTick_frLen : (s.resetTick).frLen = 0 := rfl
@[simp] theorem State.resetTick_frCnt : (s.resetTick).frCnt = 0 := rfl
@[simp] theorem State.resetTick_rxBuf : (s.resetTick).rxBuf = [] := rfl
@[simp] theorem State.resetTick_respKind : (s.resetTick).respKind = .ok := rfl
@[simp] theorem State.resetTick_txBuf : (s.resetTick).txBuf = [] := rfl
@[simp] theorem State.resetTick_txLen : (s.resetTick).txLen = 0 := rfl
@[simp] theorem State.resetTick_txCnt : (s.resetTick).txCnt = 0 := rfl
@[simp] theorem State.resetTick_exitCode : (s.resetTick).exitCode = 0 := rfl
@[simp] theorem State.resetTick_faultCause : (s.resetTick).faultCause = 0 := rfl
@[simp] theorem State.resetTick_params : (s.resetTick).params = s.params := rfl
@[simp] theorem State.resetTick_inputs : (s.resetTick).inputs = s.inputs.tail := rfl
@[simp] theorem State.resetTick_draws : (s.resetTick).draws = s.draws + 1 := rfl
@[simp] theorem State.resetTick_bufDraw : (s.resetTick).bufDraw = s.draws + 1 := rfl
@[simp] theorem State.resetTick_hdrCnt : (s.resetTick).hdrCnt = 0 := rfl
@[simp] theorem State.resetTick_accepted : (s.resetTick).accepted = s.accepted := rfl
@[simp] theorem State.resetTick_emitted : (s.resetTick).emitted = s.emitted := rfl

end

section

variable (s : State)

@[simp] theorem State.initAttempt_timeUs : (s.initAttempt).timeUs = s.timeUs := rfl
@[simp] theorem State.initAttempt_dspState : (s.initAttempt).dspState = s.dspState := rfl
@[simp] theorem State.initAttempt_schState : (s.initAttempt).schState = s.schState := rfl
@[simp] theorem State.initAttempt_decState : (s.initAttempt).decState = decWAKELOW := rfl
@[simp] theorem State.initAttempt_wakeCnt : (s.initAttempt).wakeCnt = 0#16 := rfl
@[simp] theorem State.initAttempt_lastLevel : (s.initAttempt).lastLevel = true := rfl
@[simp] theorem State.initAttempt_pulseCnt : (s.initAttempt).pulseCnt = 0#8 := rfl
@[simp] theorem State.initAttempt_edgeCnt : (s.initAttempt).edgeCnt = 0#7 := rfl
@[simp] theorem State.initAttempt_bitCnt : (s.initAttempt).bitCnt = 0 := rfl
@[simp] theorem State.initAttempt_raw : (s.initAttempt).raw = List.replicate s.params.rawBytes 0 := rfl
@[simp] theorem State.initAttempt_capHit : (s.initAttempt).capHit = false := rfl
@[simp] theorem State.initAttempt_resValid : (s.initAttempt).resValid = s.resValid := rfl
@[simp] theorem State.initAttempt_resCause : (s.initAttempt).resCause = s.resCause := rfl
@[simp] theorem State.initAttempt_resHum : (s.initAttempt).resHum = s.resHum := rfl
@[simp] theorem State.initAttempt_resTemp : (s.initAttempt).resTemp = s.resTemp := rfl
@[simp] theorem State.initAttempt_lastReadValid : (s.initAttempt).lastReadValid = s.lastReadValid := rfl
@[simp] theorem State.initAttempt_lastReadMs : (s.initAttempt).lastReadMs = s.lastReadMs := rfl
@[simp] theorem State.initAttempt_deadlineMs : (s.initAttempt).deadlineMs = s.deadlineMs := rfl
@[simp] theorem State.initAttempt_timeoutMs : (s.initAttempt).timeoutMs = s.timeoutMs := rfl
@[simp] theorem State.initAttempt_frLen : (s.initAttempt).frLen = s.frLen := rfl
@[simp] theorem State.initAttempt_frCnt : (s.initAttempt).frCnt = s.frCnt := rfl
@[simp] theorem State.initAttempt_rxBuf : (s.initAttempt).rxBuf = s.rxBuf := rfl
@[simp] theorem State.initAttempt_respKind : (s.initAttempt).respKind = s.respKind := rfl
@[simp] theorem State.initAttempt_txBuf : (s.initAttempt).txBuf = s.txBuf := rfl
@[simp] theorem State.initAttempt_txLen : (s.initAttempt).txLen = s.txLen := rfl
@[simp] theorem State.initAttempt_txCnt : (s.initAttempt).txCnt = s.txCnt := rfl
@[simp] theorem State.initAttempt_exitCode : (s.initAttempt).exitCode = s.exitCode := rfl
@[simp] theorem State.initAttempt_faultCause : (s.initAttempt).faultCause = s.faultCause := rfl
@[simp] theorem State.initAttempt_params : (s.initAttempt).params = s.params := rfl
@[simp] theorem State.initAttempt_inputs : (s.initAttempt).inputs = s.inputs := rfl
@[simp] theorem State.initAttempt_draws : (s.initAttempt).draws = s.draws := rfl
@[simp] theorem State.initAttempt_bufDraw : (s.initAttempt).bufDraw = s.bufDraw := rfl
@[simp] theorem State.initAttempt_hdrCnt : (s.initAttempt).hdrCnt = s.hdrCnt := rfl
@[simp] theorem State.initAttempt_accepted : (s.initAttempt).accepted = s.accepted := rfl
@[simp] theorem State.initAttempt_emitted : (s.initAttempt).emitted = s.emitted := rfl

end

section

variable (s : State)

@[simp] theorem State.acceptByte_timeUs : (s.acceptByte).timeUs = s.timeUs := rfl
@[simp] theorem State.acceptByte_dspState : (s.acceptByte).dspState = s.dspState := rfl
@[simp] theorem State.acceptByte_schState : (s.acceptByte).schState = s.schState := rfl
@[simp] theorem State.acceptByte_decState : (s.acceptByte).decState = s.decState := rfl
@[simp] theorem State.acceptByte_wakeCnt : (s.acceptByte).wakeCnt = s.wakeCnt := rfl
@[simp] theorem State.acceptByte_lastLevel : (s.acceptByte).lastLevel = s.lastLevel := rfl
@[simp] theorem State.acceptByte_pulseCnt : (s.acceptByte).pulseCnt = s.pulseCnt := rfl
@[simp] theorem State.acceptByte_edgeCnt : (s.acceptByte).edgeCnt = s.edgeCnt := rfl
@[simp] theorem State.acceptByte_bitCnt : (s.acceptByte).bitCnt = s.bitCnt := rfl
@[simp] theorem State.acceptByte_raw : (s.acceptByte).raw = s.raw := rfl
@[simp] theorem State.acceptByte_capHit : (s.acceptByte).capHit = s.capHit := rfl
@[simp] theorem State.acceptByte_resValid : (s.acceptByte).resValid = s.resValid := rfl
@[simp] theorem State.acceptByte_resCause : (s.acceptByte).resCause = s.resCause := rfl
@[simp] theorem State.acceptByte_resHum : (s.acceptByte).resHum = s.resHum := rfl
@[simp] theorem State.acceptByte_resTemp : (s.acceptByte).resTemp = s.resTemp := rfl
@[simp] theorem State.acceptByte_lastReadValid : (s.acceptByte).lastReadValid = s.lastReadValid := rfl
@[simp] theorem State.acceptByte_lastReadMs : (s.acceptByte).lastReadMs = s.lastReadMs := rfl
@[simp] theorem State.acceptByte_deadlineMs : (s.acceptByte).deadlineMs = s.deadlineMs := rfl
@[simp] theorem State.acceptByte_timeoutMs : (s.acceptByte).timeoutMs = s.timeoutMs := rfl
@[simp] theorem State.acceptByte_frLen : (s.acceptByte).frLen = s.frLen := rfl
@[simp] theorem State.acceptByte_frCnt : (s.acceptByte).frCnt = s.frCnt := rfl
@[simp] theorem State.acceptByte_rxBuf : (s.acceptByte).rxBuf = s.rxBuf := rfl
@[simp] theorem State.acceptByte_respKind : (s.acceptByte).respKind = s.respKind := rfl
@[simp] theorem State.acceptByte_txBuf : (s.acceptByte).txBuf = s.txBuf := rfl
@[simp] theorem State.acceptByte_txLen : (s.acceptByte).txLen = s.txLen := rfl
@[simp] theorem State.acceptByte_txCnt : (s.acceptByte).txCnt = s.txCnt := rfl
@[simp] theorem State.acceptByte_exitCode : (s.acceptByte).exitCode = s.exitCode := rfl
@[simp] theorem State.acceptByte_faultCause : (s.acceptByte).faultCause = s.faultCause := rfl
@[simp] theorem State.acceptByte_params : (s.acceptByte).params = s.params := rfl
@[simp] theorem State.acceptByte_inputs : (s.acceptByte).inputs = s.inputs := rfl
@[simp] theorem State.acceptByte_draws : (s.acceptByte).draws = s.draws := rfl
@[simp] theorem State.acceptByte_bufDraw : (s.acceptByte).bufDraw = s.bufDraw := rfl
@[simp] theorem State.acceptByte_hdrCnt : (s.acceptByte).hdrCnt = s.hdrCnt := rfl
@[simp] theorem State.acceptByte_accepted : (s.acceptByte).accepted = s.accepted ++ [s.pins.inByte] := rfl
@[simp] theorem State.acceptByte_emitted : (s.acceptByte).emitted = s.emitted := rfl

end

section

variable (s : State) (n : Nat)

@[simp] theorem State.startPayload_timeUs : (s.startPayload n).timeUs = s.timeUs := rfl
@[simp] theorem State.startPayload_dspState : (s.startPayload n).dspState = if n = 0 then dspDECODE else dspRXPAY := rfl
@[simp] theorem State.startPayload_schState : (s.startPayload n).schState = s.schState := rfl
@[simp] theorem State.startPayload_decState : (s.startPayload n).decState = s.decState := rfl
@[simp] theorem State.startPayload_wakeCnt : (s.startPayload n).wakeCnt = s.wakeCnt := rfl
@[simp] theorem State.startPayload_lastLevel : (s.startPayload n).lastLevel = s.lastLevel := rfl
@[simp] theorem State.startPayload_pulseCnt : (s.startPayload n).pulseCnt = s.pulseCnt := rfl
@[simp] theorem State.startPayload_edgeCnt : (s.startPayload n).edgeCnt = s.edgeCnt := rfl
@[simp] theorem State.startPayload_bitCnt : (s.startPayload n).bitCnt = s.bitCnt := rfl
@[simp] theorem State.startPayload_raw : (s.startPayload n).raw = s.raw := rfl
@[simp] theorem State.startPayload_capHit : (s.startPayload n).capHit = s.capHit := rfl
@[simp] theorem State.startPayload_resValid : (s.startPayload n).resValid = s.resValid := rfl
@[simp] theorem State.startPayload_resCause : (s.startPayload n).resCause = s.resCause := rfl
@[simp] theorem State.startPayload_resHum : (s.startPayload n).resHum = s.resHum := rfl
@[simp] theorem State.startPayload_resTemp : (s.startPayload n).resTemp = s.resTemp := rfl
@[simp] theorem State.startPayload_lastReadValid : (s.startPayload n).lastReadValid = s.lastReadValid := rfl
@[simp] theorem State.startPayload_lastReadMs : (s.startPayload n).lastReadMs = s.lastReadMs := rfl
@[simp] theorem State.startPayload_deadlineMs : (s.startPayload n).deadlineMs = s.deadlineMs := rfl
@[simp] theorem State.startPayload_timeoutMs : (s.startPayload n).timeoutMs = s.timeoutMs := rfl
@[simp] theorem State.startPayload_frLen : (s.startPayload n).frLen = n := rfl
@[simp] theorem State.startPayload_frCnt : (s.startPayload n).frCnt = 0 := rfl
@[simp] theorem State.startPayload_rxBuf : (s.startPayload n).rxBuf = s.rxBuf := rfl
@[simp] theorem State.startPayload_respKind : (s.startPayload n).respKind = s.respKind := rfl
@[simp] theorem State.startPayload_txBuf : (s.startPayload n).txBuf = s.txBuf := rfl
@[simp] theorem State.startPayload_txLen : (s.startPayload n).txLen = s.txLen := rfl
@[simp] theorem State.startPayload_txCnt : (s.startPayload n).txCnt = s.txCnt := rfl
@[simp] theorem State.startPayload_exitCode : (s.startPayload n).exitCode = s.exitCode := rfl
@[simp] theorem State.startPayload_faultCause : (s.startPayload n).faultCause = s.faultCause := rfl
@[simp] theorem State.startPayload_params : (s.startPayload n).params = s.params := rfl
@[simp] theorem State.startPayload_inputs : (s.startPayload n).inputs = s.inputs := rfl
@[simp] theorem State.startPayload_draws : (s.startPayload n).draws = s.draws := rfl
@[simp] theorem State.startPayload_bufDraw : (s.startPayload n).bufDraw = s.bufDraw := rfl
@[simp] theorem State.startPayload_hdrCnt : (s.startPayload n).hdrCnt = 0 := rfl
@[simp] theorem State.startPayload_accepted : (s.startPayload n).accepted = s.accepted := rfl
@[simp] theorem State.startPayload_emitted : (s.startPayload n).emitted = s.emitted := rfl

end

section

variable (s : State) (t : Nat)

@[simp] theorem State.startRead_timeUs : (s.startRead t).timeUs = s.timeUs := rfl
@[simp] theorem State.startRead_dspState : (s.startRead t).dspState = dspEXEC := rfl
@[simp] theorem State.startRead_schState : (s.startRead t).schState = schSTART := rfl
@[simp] theorem State.startRead_decState : (s.startRead t).decState = s.decState := rfl
@[simp] theorem State.startRead_wakeCnt : (s.startRead t).wakeCnt = s.wakeCnt := rfl
@[simp] theorem State.startRead_lastLevel : (s.startRead t).lastLevel = s.lastLevel := rfl
@[simp] theorem State.startRead_pulseCnt : (s.startRead t).pulseCnt = s.pulseCnt := rfl
@[simp] theorem State.startRead_edgeCnt : (s.startRead t).edgeCnt = s.edgeCnt := rfl
@[simp] theorem State.startRead_bitCnt : (s.startRead t).bitCnt = s.bitCnt := rfl
@[simp] theorem State.startRead_raw : (s.startRead t).raw = s.raw := rfl
@[simp] theorem State.startRead_capHit : (s.startRead t).capHit = s.capHit := rfl
@[simp] theorem State.startRead_resValid : (s.startRead t).resValid = s.resValid := rfl
@[simp] theorem State.startRead_resCause : (s.startRead t).resCause = s.resCause := rfl
@[simp] theorem State.startRead_resHum : (s.startRead t).resHum = s.resHum := rfl
@[simp] theorem State.startRead_resTemp : (s.startRead t).resTemp = s.resTemp := rfl
@[simp] theorem State.startRead_lastReadValid : (s.startRead t).lastReadValid = s.lastReadValid := rfl
@[simp] theorem State.startRead_lastReadMs : (s.startRead t).lastReadMs = s.lastReadMs := rfl
@[simp] theorem State.startRead_deadlineMs : (s.startRead t).deadlineMs = s.deadlineMs := rfl
@[simp] theorem State.startRead_timeoutMs : (s.startRead t).timeoutMs = t := rfl
@[simp] theorem State.startRead_frLen : (s.startRead t).frLen = s.frLen := rfl
@[simp] theorem State.startRead_frCnt : (s.startRead t).frCnt = s.frCnt := rfl
@[simp] theorem State.startRead_rxBuf : (s.startRead t).rxBuf = s.rxBuf := rfl
@[simp] theorem State.startRead_respKind : (s.startRead t).respKind = s.respKind := rfl
@[simp] theorem State.startRead_txBuf : (s.startRead t).txBuf = s.txBuf := rfl
@[simp] theorem State.startRead_txLen : (s.startRead t).txLen = s.txLen := rfl
@[simp] theorem State.startRead_txCnt : (s.startRead t).txCnt = s.txCnt := rfl
@[simp] theorem State.startRead_exitCode : (s.startRead t).exitCode = s.exitCode := rfl
@[simp] theorem State.startRead_faultCause : (s.startRead t).faultCause = s.faultCause := rfl
@[simp] theorem State.startRead_params : (s.startRead t).params = s.params := rfl
@[simp] theorem State.startRead_inputs : (s.startRead t).inputs = s.inputs := rfl
@[simp] theorem State.startRead_draws : (s.startRead t).draws = s.draws := rfl
@[simp] theorem State.startRead_bufDraw : (s.startRead t).bufDraw = s.bufDraw := rfl
@[simp] theorem State.startRead_hdrCnt : (s.startRead t).hdrCnt = s.hdrCnt := rfl
@[simp] theorem State.startRead_accepted : (s.startRead t).accepted = s.accepted := rfl
@[simp] theorem State.startRead_emitted : (s.startRead t).emitted = s.emitted := rfl

end

section

variable (s : State) (k : RespKind)

@[simp] theorem State.respond_timeUs : (s.respond k).timeUs = s.timeUs := rfl
@[simp] theorem State.respond_dspState : (s.respond k).dspState = dspENCODE := rfl
@[simp] theorem State.respond_schState : (s.respond k).schState = schIDLE := rfl
@[simp] theorem State.respond_decState : (s.respond k).decState = s.decState := rfl
@[simp] theorem State.respond_wakeCnt : (s.respond k).wakeCnt = s.wakeCnt := rfl
@[simp] theorem State.respond_lastLevel : (s.respond k).lastLevel = s.lastLevel := rfl
@[simp] theorem State.respond_pulseCnt : (s.respond k).pulseCnt = s.pulseCnt := rfl
@[simp] theorem State.respond_edgeCnt : (s.respond k).edgeCnt = s.edgeCnt := rfl
@[simp] theorem State.respond_bitCnt : (s.respond k).bitCnt = s.bitCnt := rfl
@[simp] theorem State.respond_raw : (s.respond k).raw = s.raw := rfl
@[simp] theorem State.respond_capHit : (s.respond k).capHit = s.capHit := rfl
@[simp] theorem State.respond_resValid : (s.respond k).resValid = s.resValid := rfl
@[simp] theorem State.respond_resCause : (s.respond k).resCause = s.resCause := rfl
@[simp] theorem State.respond_resHum : (s.respond k).resHum = s.resHum := rfl
@[simp] theorem State.respond_resTemp : (s.respond k).resTemp = s.resTemp := rfl
@[simp] theorem State.respond_lastReadValid : (s.respond k).lastReadValid = s.lastReadValid := rfl
@[simp] theorem State.respond_lastReadMs : (s.respond k).lastReadMs = s.lastReadMs := rfl
@[simp] theorem State.respond_deadlineMs : (s.respond k).deadlineMs = s.deadlineMs := rfl
@[simp] theorem State.respond_timeoutMs : (s.respond k).timeoutMs = s.timeoutMs := rfl
@[simp] theorem State.respond_frLen : (s.respond k).frLen = s.frLen := rfl
@[simp] theorem State.respond_frCnt : (s.respond k).frCnt = s.frCnt := rfl
@[simp] theorem State.respond_rxBuf : (s.respond k).rxBuf = s.rxBuf := rfl
@[simp] theorem State.respond_respKind : (s.respond k).respKind = k := rfl
@[simp] theorem State.respond_txBuf : (s.respond k).txBuf = s.txBuf := rfl
@[simp] theorem State.respond_txLen : (s.respond k).txLen = s.txLen := rfl
@[simp] theorem State.respond_txCnt : (s.respond k).txCnt = s.txCnt := rfl
@[simp] theorem State.respond_exitCode : (s.respond k).exitCode = s.exitCode := rfl
@[simp] theorem State.respond_faultCause : (s.respond k).faultCause = s.faultCause := rfl
@[simp] theorem State.respond_params : (s.respond k).params = s.params := rfl
@[simp] theorem State.respond_inputs : (s.respond k).inputs = s.inputs := rfl
@[simp] theorem State.respond_draws : (s.respond k).draws = s.draws := rfl
@[simp] theorem State.respond_bufDraw : (s.respond k).bufDraw = s.bufDraw := rfl
@[simp] theorem State.respond_hdrCnt : (s.respond k).hdrCnt = s.hdrCnt := rfl
@[simp] theorem State.respond_accepted : (s.respond k).accepted = s.accepted := rfl
@[simp] theorem State.respond_emitted : (s.respond k).emitted = s.emitted := rfl

end

section

variable (s : State) (i : Inputs)

@[simp] theorem State.withPins_timeUs : (s.withPins i).timeUs = s.timeUs := rfl
@[simp] theorem State.withPins_dspState : (s.withPins i).dspState = s.dspState := rfl
@[simp] theorem State.withPins_schState : (s.withPins i).schState = s.schState := rfl
@[simp] theorem State.withPins_decState : (s.withPins i).decState = s.decState := rfl
@[simp] theorem State.withPins_wakeCnt : (s.withPins i).wakeCnt = s.wakeCnt := rfl
@[simp] theorem State.withPins_lastLevel : (s.withPins i).lastLevel = s.lastLevel := rfl
@[simp] theorem State.withPins_pulseCnt : (s.withPins i).pulseCnt = s.pulseCnt := rfl
@[simp] theorem State.withPins_edgeCnt : (s.withPins i).edgeCnt = s.edgeCnt := rfl
@[simp] theorem State.withPins_bitCnt : (s.withPins i).bitCnt = s.bitCnt := rfl
@[simp] theorem State.withPins_raw : (s.withPins i).raw = s.raw := rfl
@[simp] theorem State.withPins_capHit : (s.withPins i).capHit = s.capHit := rfl
@[simp] theorem State.withPins_resValid : (s.withPins i).resValid = s.resValid := rfl
@[simp] theorem State.withPins_resCause : (s.withPins i).resCause = s.resCause := rfl
@[simp] theorem State.withPins_resHum : (s.withPins i).resHum = s.resHum := rfl
@[simp] theorem State.withPins_resTemp : (s.withPins i).resTemp = s.resTemp := rfl
@[simp] theorem State.withPins_lastReadValid : (s.withPins i).lastReadValid = s.lastReadValid := rfl
@[simp] theorem State.withPins_lastReadMs : (s.withPins i).lastReadMs = s.lastReadMs := rfl
@[simp] theorem State.withPins_deadlineMs : (s.withPins i).deadlineMs = s.deadlineMs := rfl
@[simp] theorem State.withPins_timeoutMs : (s.withPins i).timeoutMs = s.timeoutMs := rfl
@[simp] theorem State.withPins_frLen : (s.withPins i).frLen = s.frLen := rfl
@[simp] theorem State.withPins_frCnt : (s.withPins i).frCnt = s.frCnt := rfl
@[simp] theorem State.withPins_rxBuf : (s.withPins i).rxBuf = s.rxBuf := rfl
@[simp] theorem State.withPins_respKind : (s.withPins i).respKind = s.respKind := rfl
@[simp] theorem State.withPins_txBuf : (s.withPins i).txBuf = s.txBuf := rfl
@[simp] theorem State.withPins_txLen : (s.withPins i).txLen = s.txLen := rfl
@[simp] theorem State.withPins_txCnt : (s.withPins i).txCnt = s.txCnt := rfl
@[simp] theorem State.withPins_exitCode : (s.withPins i).exitCode = s.exitCode := rfl
@[simp] theorem State.withPins_faultCause : (s.withPins i).faultCause = s.faultCause := rfl
@[simp] theorem State.withPins_params : (s.withPins i).params = s.params := rfl
@[simp] theorem State.withPins_inputs : (s.withPins i).inputs = i :: s.inputs.tail := rfl
@[simp] theorem State.withPins_draws : (s.withPins i).draws = s.draws := rfl
@[simp] theorem State.withPins_bufDraw : (s.withPins i).bufDraw = s.bufDraw := rfl
@[simp] theorem State.withPins_hdrCnt : (s.withPins i).hdrCnt = s.hdrCnt := rfl
@[simp] theorem State.withPins_accepted : (s.withPins i).accepted = s.accepted := rfl
@[simp] theorem State.withPins_emitted : (s.withPins i).emitted = s.emitted := rfl

end

section

variable (s : State)

@[simp] theorem State.advance_timeUs : (s.advance).timeUs = fit .timeUs s.params.timeW (s.timeUs + 1) s.draws := rfl
@[simp] theorem State.advance_dspState : (s.advance).dspState = s.dspState := rfl
@[simp] theorem State.advance_schState : (s.advance).schState = s.schState := rfl
@[simp] theorem State.advance_decState : (s.advance).decState = s.decState := rfl
@[simp] theorem State.advance_wakeCnt : (s.advance).wakeCnt = s.wakeCnt := rfl
@[simp] theorem State.advance_lastLevel : (s.advance).lastLevel = s.lastLevel := rfl
@[simp] theorem State.advance_pulseCnt : (s.advance).pulseCnt = s.pulseCnt := rfl
@[simp] theorem State.advance_edgeCnt : (s.advance).edgeCnt = s.edgeCnt := rfl
@[simp] theorem State.advance_bitCnt : (s.advance).bitCnt = s.bitCnt := rfl
@[simp] theorem State.advance_raw : (s.advance).raw = s.raw := rfl
@[simp] theorem State.advance_capHit : (s.advance).capHit = s.capHit := rfl
@[simp] theorem State.advance_resValid : (s.advance).resValid = s.resValid := rfl
@[simp] theorem State.advance_resCause : (s.advance).resCause = s.resCause := rfl
@[simp] theorem State.advance_resHum : (s.advance).resHum = s.resHum := rfl
@[simp] theorem State.advance_resTemp : (s.advance).resTemp = s.resTemp := rfl
@[simp] theorem State.advance_lastReadValid : (s.advance).lastReadValid = s.lastReadValid := rfl
@[simp] theorem State.advance_lastReadMs : (s.advance).lastReadMs = s.lastReadMs := rfl
@[simp] theorem State.advance_deadlineMs : (s.advance).deadlineMs = s.deadlineMs := rfl
@[simp] theorem State.advance_timeoutMs : (s.advance).timeoutMs = s.timeoutMs := rfl
@[simp] theorem State.advance_frLen : (s.advance).frLen = s.frLen := rfl
@[simp] theorem State.advance_frCnt : (s.advance).frCnt = s.frCnt := rfl
@[simp] theorem State.advance_rxBuf : (s.advance).rxBuf = s.rxBuf := rfl
@[simp] theorem State.advance_respKind : (s.advance).respKind = s.respKind := rfl
@[simp] theorem State.advance_txBuf : (s.advance).txBuf = s.txBuf := rfl
@[simp] theorem State.advance_txLen : (s.advance).txLen = s.txLen := rfl
@[simp] theorem State.advance_txCnt : (s.advance).txCnt = s.txCnt := rfl
@[simp] theorem State.advance_exitCode : (s.advance).exitCode = s.exitCode := rfl
@[simp] theorem State.advance_faultCause : (s.advance).faultCause = s.faultCause := rfl
@[simp] theorem State.advance_params : (s.advance).params = s.params := rfl
@[simp] theorem State.advance_inputs : (s.advance).inputs = s.inputs.tail := rfl
@[simp] theorem State.advance_draws : (s.advance).draws = s.draws + 1 := rfl
@[simp] theorem State.advance_bufDraw : (s.advance).bufDraw = s.bufDraw := rfl
@[simp] theorem State.advance_hdrCnt : (s.advance).hdrCnt = s.hdrCnt := rfl
@[simp] theorem State.advance_accepted : (s.advance).accepted = s.accepted := rfl
@[simp] theorem State.advance_emitted : (s.advance).emitted = s.emitted := rfl

end

/-! ### `conclude`: the fields it writes whatever the result, and the fields it never writes -/

section

variable (s : State)

@[simp] theorem State.recordResult_timeUs : s.recordResult.timeUs = s.timeUs := by unfold State.recordResult; split <;> [rfl; (split <;> rfl)]
@[simp] theorem State.recordResult_dspState : s.recordResult.dspState = s.dspState := by unfold State.recordResult; split <;> [rfl; (split <;> rfl)]
@[simp] theorem State.recordResult_schState : s.recordResult.schState = s.schState := by unfold State.recordResult; split <;> [rfl; (split <;> rfl)]
@[simp] theorem State.recordResult_decState : s.recordResult.decState = s.decState := by unfold State.recordResult; split <;> [rfl; (split <;> rfl)]
@[simp] theorem State.recordResult_wakeCnt : s.recordResult.wakeCnt = s.wakeCnt := by unfold State.recordResult; split <;> [rfl; (split <;> rfl)]
@[simp] theorem State.recordResult_lastLevel : s.recordResult.lastLevel = s.lastLevel := by unfold State.recordResult; split <;> [rfl; (split <;> rfl)]
@[simp] theorem State.recordResult_pulseCnt : s.recordResult.pulseCnt = s.pulseCnt := by unfold State.recordResult; split <;> [rfl; (split <;> rfl)]
@[simp] theorem State.recordResult_edgeCnt : s.recordResult.edgeCnt = s.edgeCnt := by unfold State.recordResult; split <;> [rfl; (split <;> rfl)]
@[simp] theorem State.recordResult_bitCnt : s.recordResult.bitCnt = s.bitCnt := by unfold State.recordResult; split <;> [rfl; (split <;> rfl)]
@[simp] theorem State.recordResult_raw : s.recordResult.raw = s.raw := by unfold State.recordResult; split <;> [rfl; (split <;> rfl)]
@[simp] theorem State.recordResult_capHit : s.recordResult.capHit = s.capHit := by unfold State.recordResult; split <;> [rfl; (split <;> rfl)]
@[simp] theorem State.recordResult_lastReadValid : s.recordResult.lastReadValid = s.lastReadValid := by unfold State.recordResult; split <;> [rfl; (split <;> rfl)]
@[simp] theorem State.recordResult_lastReadMs : s.recordResult.lastReadMs = s.lastReadMs := by unfold State.recordResult; split <;> [rfl; (split <;> rfl)]
@[simp] theorem State.recordResult_deadlineMs : s.recordResult.deadlineMs = s.deadlineMs := by unfold State.recordResult; split <;> [rfl; (split <;> rfl)]
@[simp] theorem State.recordResult_timeoutMs : s.recordResult.timeoutMs = s.timeoutMs := by unfold State.recordResult; split <;> [rfl; (split <;> rfl)]
@[simp] theorem State.recordResult_frLen : s.recordResult.frLen = s.frLen := by unfold State.recordResult; split <;> [rfl; (split <;> rfl)]
@[simp] theorem State.recordResult_frCnt : s.recordResult.frCnt = s.frCnt := by unfold State.recordResult; split <;> [rfl; (split <;> rfl)]
@[simp] theorem State.recordResult_rxBuf : s.recordResult.rxBuf = s.rxBuf := by unfold State.recordResult; split <;> [rfl; (split <;> rfl)]
@[simp] theorem State.recordResult_respKind : s.recordResult.respKind = s.respKind := by unfold State.recordResult; split <;> [rfl; (split <;> rfl)]
@[simp] theorem State.recordResult_txBuf : s.recordResult.txBuf = s.txBuf := by unfold State.recordResult; split <;> [rfl; (split <;> rfl)]
@[simp] theorem State.recordResult_txLen : s.recordResult.txLen = s.txLen := by unfold State.recordResult; split <;> [rfl; (split <;> rfl)]
@[simp] theorem State.recordResult_txCnt : s.recordResult.txCnt = s.txCnt := by unfold State.recordResult; split <;> [rfl; (split <;> rfl)]
@[simp] theorem State.recordResult_exitCode : s.recordResult.exitCode = s.exitCode := by unfold State.recordResult; split <;> [rfl; (split <;> rfl)]
@[simp] theorem State.recordResult_faultCause : s.recordResult.faultCause = s.faultCause := by unfold State.recordResult; split <;> [rfl; (split <;> rfl)]
@[simp] theorem State.recordResult_params : s.recordResult.params = s.params := by unfold State.recordResult; split <;> [rfl; (split <;> rfl)]
@[simp] theorem State.recordResult_inputs : s.recordResult.inputs = s.inputs := by unfold State.recordResult; split <;> [rfl; (split <;> rfl)]
@[simp] theorem State.recordResult_draws : s.recordResult.draws = s.draws := by unfold State.recordResult; split <;> [rfl; (split <;> rfl)]
@[simp] theorem State.recordResult_bufDraw : s.recordResult.bufDraw = s.bufDraw := by unfold State.recordResult; split <;> [rfl; (split <;> rfl)]
@[simp] theorem State.recordResult_hdrCnt : s.recordResult.hdrCnt = s.hdrCnt := by unfold State.recordResult; split <;> [rfl; (split <;> rfl)]
@[simp] theorem State.recordResult_accepted : s.recordResult.accepted = s.accepted := by unfold State.recordResult; split <;> [rfl; (split <;> rfl)]
@[simp] theorem State.recordResult_emitted : s.recordResult.emitted = s.emitted := by unfold State.recordResult; split <;> [rfl; (split <;> rfl)]

@[simp] theorem State.conclude_timeUs : s.conclude.timeUs = s.timeUs := State.recordResult_timeUs s
@[simp] theorem State.conclude_dspState : s.conclude.dspState = s.dspState := State.recordResult_dspState s
@[simp] theorem State.conclude_schState : s.conclude.schState = schCHECK := rfl
@[simp] theorem State.conclude_decState : s.conclude.decState = decIDLE := rfl
@[simp] theorem State.conclude_wakeCnt : s.conclude.wakeCnt = s.wakeCnt := State.recordResult_wakeCnt s
@[simp] theorem State.conclude_lastLevel : s.conclude.lastLevel = s.lastLevel := State.recordResult_lastLevel s
@[simp] theorem State.conclude_pulseCnt : s.conclude.pulseCnt = s.pulseCnt := State.recordResult_pulseCnt s
@[simp] theorem State.conclude_edgeCnt : s.conclude.edgeCnt = s.edgeCnt := State.recordResult_edgeCnt s
@[simp] theorem State.conclude_bitCnt : s.conclude.bitCnt = s.bitCnt := State.recordResult_bitCnt s
@[simp] theorem State.conclude_raw : s.conclude.raw = s.raw := State.recordResult_raw s
@[simp] theorem State.conclude_capHit : s.conclude.capHit = s.capHit := State.recordResult_capHit s
@[simp] theorem State.conclude_lastReadValid : s.conclude.lastReadValid = true := rfl
@[simp] theorem State.conclude_lastReadMs : s.conclude.lastReadMs = s.nowMs := rfl
@[simp] theorem State.conclude_deadlineMs : s.conclude.deadlineMs = s.deadlineMs := State.recordResult_deadlineMs s
@[simp] theorem State.conclude_timeoutMs : s.conclude.timeoutMs = s.timeoutMs := State.recordResult_timeoutMs s
@[simp] theorem State.conclude_frLen : s.conclude.frLen = s.frLen := State.recordResult_frLen s
@[simp] theorem State.conclude_frCnt : s.conclude.frCnt = s.frCnt := State.recordResult_frCnt s
@[simp] theorem State.conclude_rxBuf : s.conclude.rxBuf = s.rxBuf := State.recordResult_rxBuf s
@[simp] theorem State.conclude_respKind : s.conclude.respKind = s.respKind := State.recordResult_respKind s
@[simp] theorem State.conclude_txBuf : s.conclude.txBuf = s.txBuf := State.recordResult_txBuf s
@[simp] theorem State.conclude_txLen : s.conclude.txLen = s.txLen := State.recordResult_txLen s
@[simp] theorem State.conclude_txCnt : s.conclude.txCnt = s.txCnt := State.recordResult_txCnt s
@[simp] theorem State.conclude_exitCode : s.conclude.exitCode = s.exitCode := State.recordResult_exitCode s
@[simp] theorem State.conclude_faultCause : s.conclude.faultCause = s.faultCause := State.recordResult_faultCause s
@[simp] theorem State.conclude_params : s.conclude.params = s.params := State.recordResult_params s
@[simp] theorem State.conclude_inputs : s.conclude.inputs = s.inputs := State.recordResult_inputs s
@[simp] theorem State.conclude_draws : s.conclude.draws = s.draws := State.recordResult_draws s
@[simp] theorem State.conclude_bufDraw : s.conclude.bufDraw = s.bufDraw := State.recordResult_bufDraw s
@[simp] theorem State.conclude_hdrCnt : s.conclude.hdrCnt = s.hdrCnt := State.recordResult_hdrCnt s
@[simp] theorem State.conclude_accepted : s.conclude.accepted = s.accepted := State.recordResult_accepted s
@[simp] theorem State.conclude_emitted : s.conclude.emitted = s.emitted := State.recordResult_emitted s
@[simp] theorem State.conclude_resValid : s.conclude.resValid = s.recordResult.resValid := rfl
@[simp] theorem State.conclude_resCause : s.conclude.resCause = s.recordResult.resCause := rfl
@[simp] theorem State.conclude_resHum : s.conclude.resHum = s.recordResult.resHum := rfl
@[simp] theorem State.conclude_resTemp : s.conclude.resTemp = s.recordResult.resTemp := rfl

end

end Sys2Proof.Machine
end

