-- ==== Sys2Proof/Laws/Step.lean ====
section
/-!
SUPPORT. What the shared operations and the step can do, said once: the provers cite these and unfold nothing.
-/

namespace Sys2Proof.Machine

/-! ### Operands and outputs -/

/-- The validator's sample under the default RAW_BYTES (41_validator.md R170). -/
@[simp] theorem sampleOf_five (r0 r1 r2 r3 r4 : Byte) : sampleOf [r0, r1, r2, r3, r4] = ⟨r0, r1, r2, r3, r4⟩ := rfl

/-- The frame byte TX_CNT selects is a length byte, or the payload byte of TX_BUF; else the index is past TX_BUF (10_state.md R34). -/
theorem State.txByte_ok {s : State} {b : Byte} :
    s.txByte = .ok b ↔
      (s.txCnt < s.params.lenBytes ∧ b = lenByte s.params.lenBytes s.txLen s.txCnt) ∨
        (s.params.lenBytes ≤ s.txCnt ∧ s.txCnt - s.params.lenBytes < s.params.txMax ∧
          b = s.txBuf.byte (Config.freeByte .tx s.bufDraw) (s.txCnt - s.params.lenBytes)) := by
  unfold State.txByte
  split
  · rename_i h; simp [h, Nat.not_le.2 h, eq_comm]
  · rename_i h; rw [memRead_ok]; simp [h, Nat.not_lt.1 h, eq_comm (a := b)]

/-! ### Counters -/

/-- A register of w bits that is a BitVec counts one up where it does not overflow. -/
theorem bump_toNat {w : Nat} {r : NarrowReg} {x : BitVec w} (n : Nat) (h : x.toNat + 1 < 2 ^ w) :
    (bump r x n).toNat = x.toNat + 1 := by
  have h1 : 1 < 2 ^ w := by omega
  simp [bump, h, BitVec.toNat_add, Nat.mod_eq_of_lt h1, Nat.mod_eq_of_lt h]

theorem bump_of_lt {w : Nat} {r : NarrowReg} {x : BitVec w} (n : Nat) (h : x.toNat + 1 < 2 ^ w) : bump r x n = x + 1#w := by
  simp [bump, h]

/-- A value that fits is written. -/
theorem fit_of_lt {r : NarrowReg} {w v : Nat} (n : Nat) (h : v < 2 ^ w) : fit r w v n = v := by simp [fit, h]

/-- Whatever is written fits the register's width. -/
theorem fit_lt (r : NarrowReg) (w v n : Nat) : fit r w v n < 2 ^ w := by
  unfold fit
  split
  · assumption
  · exact (Config.freeValue r w n).isLt

/-! ### The parameters -/

/-- A lawful codec has two responses to tell apart, so TX_MAX is not 0. -/
theorem txMax_pos (p : Params) : 0 < p.txMax := by
  unfold Params.txMax
  split
  · decide
  · refine Nat.pos_of_ne_zero fun h => ?_
    have h1 := Config.otherCodec.encode_fits (.ok 0 0)
    have h2 := Config.otherCodec.encode_fits .timeout
    rw [h, Nat.le_zero, List.length_eq_zero_iff] at h1 h2
    have := Config.otherCodec.encode_injective (.ok 0 0) .timeout (by simp [Response.inRange]) trivial (h1.trans h2.symm)
    cases this

/-- What a legal parameter set is (00_scope.md R10; log 3, 23). -/
theorem legal_iff {p : Params} : p.legal = true ↔
    (1 ≤ p.wakeLowUs ∧ 1 ≤ p.wakeHighUs ∧ 1 ≤ p.edgeCap ∧ p.edgeCap ≤ 255 ∧ 1 ≤ p.maxEdges ∧ p.numBits = 8 * p.rawBytes ∧
      p.pulseThreshold ≤ 254 ∧ p.timeoutMax < 2 ^ p.timeW) ∧ p.faultExit ≠ 0#8 ∧ p.txMax < 256 ^ p.lenBytes := by
  simp [Params.legal, Params.keepsR10, and_assoc]

/-- A legal length prefix has a byte. -/
theorem lenBytes_pos {p : Params} (h : p.legal = true) : 0 < p.lenBytes := by
  obtain ⟨-, -, h⟩ := legal_iff.1 h
  have := txMax_pos p
  refine Nat.pos_of_ne_zero fun e => ?_
  simp [e] at h
  omega

/-! ### Outcomes -/

theorem orFault_next {α : Type} {r : Except Fault α} {k : α → Host.Outcome State Fault Refusal} {t : State} :
    orFault r k = .next t ↔ ∃ a, r = .ok a ∧ k a = .next t := by
  cases r <;> simp [orFault]

@[simp] theorem orFault_ok {α : Type} (a : α) (k : α → Host.Outcome State Fault Refusal) : orFault (.ok a) k = k a := rfl

@[simp] theorem orFault_error {α : Type} (f : Fault) (k : α → Host.Outcome State Fault Refusal) :
    orFault (.error f) k = .fault f := rfl

/-! ### Merging the writes of a tick -/

@[simp] theorem written_old {α : Type} [DecidableEq α] (o y : α) : written o o y = y := by simp [written]

@[simp] theorem written_of_old {α : Type} [DecidableEq α] (o x : α) : written o x o = x := by
  unfold written; split <;> simp_all

/-- `a` differs from `s` at most in the registers the dispatcher and the framer write (10_state.md R37). -/
structure DspWrites (s a : State) : Prop where
  timeUs : a.timeUs = s.timeUs
  decState : a.decState = s.decState
  wakeCnt : a.wakeCnt = s.wakeCnt
  lastLevel : a.lastLevel = s.lastLevel
  pulseCnt : a.pulseCnt = s.pulseCnt
  edgeCnt : a.edgeCnt = s.edgeCnt
  bitCnt : a.bitCnt = s.bitCnt
  raw : a.raw = s.raw
  capHit : a.capHit = s.capHit
  resValid : a.resValid = s.resValid
  resCause : a.resCause = s.resCause
  resHum : a.resHum = s.resHum
  resTemp : a.resTemp = s.resTemp
  lastReadValid : a.lastReadValid = s.lastReadValid
  lastReadMs : a.lastReadMs = s.lastReadMs
  deadlineMs : a.deadlineMs = s.deadlineMs
  respKind : a.respKind = s.respKind
  params : a.params = s.params
  inputs : a.inputs = s.inputs
  draws : a.draws = s.draws
  bufDraw : a.bufDraw = s.bufDraw

/-- `b` differs from `s` at most in the registers the scheduler writes (10_state.md R37). -/
structure SchWrites (s b : State) : Prop where
  timeUs : b.timeUs = s.timeUs
  resValid : b.resValid = s.resValid
  resCause : b.resCause = s.resCause
  resHum : b.resHum = s.resHum
  resTemp : b.resTemp = s.resTemp
  lastReadValid : b.lastReadValid = s.lastReadValid
  lastReadMs : b.lastReadMs = s.lastReadMs
  timeoutMs : b.timeoutMs = s.timeoutMs
  frLen : b.frLen = s.frLen
  frCnt : b.frCnt = s.frCnt
  rxBuf : b.rxBuf = s.rxBuf
  txBuf : b.txBuf = s.txBuf
  txLen : b.txLen = s.txLen
  txCnt : b.txCnt = s.txCnt
  exitCode : b.exitCode = s.exitCode
  faultCause : b.faultCause = s.faultCause
  params : b.params = s.params
  inputs : b.inputs = s.inputs
  draws : b.draws = s.draws
  bufDraw : b.bufDraw = s.bufDraw
  hdrCnt : b.hdrCnt = s.hdrCnt
  accepted : b.accepted = s.accepted
  emitted : b.emitted = s.emitted

/-- `c` differs from `s` at most in the registers the decoder writes (10_state.md R37). -/
structure DecWrites (s c : State) : Prop where
  timeUs : c.timeUs = s.timeUs
  dspState : c.dspState = s.dspState
  deadlineMs : c.deadlineMs = s.deadlineMs
  respKind : c.respKind = s.respKind
  timeoutMs : c.timeoutMs = s.timeoutMs
  frLen : c.frLen = s.frLen
  frCnt : c.frCnt = s.frCnt
  rxBuf : c.rxBuf = s.rxBuf
  txBuf : c.txBuf = s.txBuf
  txLen : c.txLen = s.txLen
  txCnt : c.txCnt = s.txCnt
  exitCode : c.exitCode = s.exitCode
  faultCause : c.faultCause = s.faultCause
  params : c.params = s.params
  inputs : c.inputs = s.inputs
  draws : c.draws = s.draws
  bufDraw : c.bufDraw = s.bufDraw
  hdrCnt : c.hdrCnt = s.hdrCnt
  accepted : c.accepted = s.accepted
  emitted : c.emitted = s.emitted

/-- Two states with the same fields are the same. -/
theorem merge_of_dspWrites {s a : State} (h : DspWrites s a) : merge s a s s = a := by
  obtain ⟨h1, h2, h3, h4, h5, h6, h7, h8, h9, h10, h11, h12, h13, h14, h15, h16, h17, h18, h19, h20, h21⟩ := h
  cases a
  simp only at *
  subst_vars
  simp [merge]

theorem merge_of_schWrites {s b : State} (h : SchWrites s b) : merge s s b s = b := by
  obtain ⟨h1, h2, h3, h4, h5, h6, h7, h8, h9, h10, h11, h12, h13, h14, h15, h16, h17, h18, h19, h20, h21, h22, h23⟩ := h
  cases b
  simp only at *
  subst_vars
  simp [merge]

theorem merge_of_decWrites {s c : State} (h : DecWrites s c) : merge s s s c = c := by
  obtain ⟨h1, h2, h3, h4, h5, h6, h7, h8, h9, h10, h11, h12, h13, h14, h15, h16, h17, h18, h19, h20⟩ := h
  cases c
  simp only at *
  subst_vars
  simp [merge]

/-! ### The operations of each sequencer -/

/-- The operations of the dispatcher and the framer. -/
def ofDsp : Instr → Bool
  | .dspInitFail | .dspInitOk | .frRxErr _ | .frRxHdr0 | .frRxHdr1 | .frRxPay | .frRxEof _ | .frRxStall _
  | .dspDecodeOk | .dspDecodeFault | .dspExec | .dspEncode | .frTxErr | .frTxByte | .frTxStall | .dspHalt => true
  | _ => false

/-- The operations of the scheduler. -/
def ofSch : Instr → Bool
  | .schIdle | .schStart | .schSpaceWait | .schSpaceGo | .schAttempt | .schCheckOk | .schCheckTimeout
  | .schCheckRetry => true
  | _ => false

/-- The operations of the decoder. -/
def ofDec : Instr → Bool
  | .decIdle | .decWakeLow | .decWakeHigh | .decEdgeCap | .decEdgeHold | .decEdgePre | .decEdgeBit | .decEdgeExcess
  | .decEdgeRise => true
  | _ => false

/-- A holding operation writes nothing. -/
theorem exec_of_holds {i : Instr} (h : holds i = true) (s : State) : exec i s = .next s := by
  cases i <;> first | rfl | simp [holds] at h

/-- What the dispatcher's and the framer's operations can write. -/
theorem exec_dspWrites {i : Instr} {s a : State} (hi : ofDsp i = true) (h : exec i s = .next a) : DspWrites s a := by
  cases i with
  | dspInitFail => simp only [exec, execDspInitFail, Host.Outcome.next.injEq] at h; subst h; constructor <;> rfl
  | dspInitOk => simp only [exec, execDspInitOk, Host.Outcome.next.injEq] at h; subst h; constructor <;> rfl
  | frRxErr nn => simp only [exec, execFrRxErr, Host.Outcome.next.injEq] at h; subst h; constructor <;> rfl
  | frRxHdr0 =>
    simp only [exec, execFrRxHdr0, Host.Outcome.next.injEq] at h; subst h
    split <;> constructor <;> rfl
  | frRxHdr1 =>
    simp only [exec, execFrRxHdr1, Host.Outcome.next.injEq] at h; subst h
    split <;> constructor <;> rfl
  | frRxPay =>
    obtain ⟨m, -, h⟩ := orFault_next.1 h
    simp only [Host.Outcome.next.injEq] at h; subst h; constructor <;> rfl
  | frRxEof nn => simp only [exec, execFrRxEof, Host.Outcome.next.injEq] at h; subst h; constructor <;> rfl
  | frRxStall nn => simp only [exec, execFrRxStall, Host.Outcome.next.injEq] at h; subst h; constructor <;> rfl
  | dspDecodeOk =>
    obtain ⟨r, -, h⟩ := orFault_next.1 h
    cases r with
    | read t => simp only [Host.Outcome.next.injEq] at h; subst h; constructor <;> rfl
    | fault c => simp at h
  | dspDecodeFault =>
    obtain ⟨r, -, h⟩ := orFault_next.1 h
    cases r with
    | read t => simp at h
    | fault c => simp only [Host.Outcome.next.injEq] at h; subst h; constructor <;> rfl
  | dspExec => simp only [exec, execDspExec, Host.Outcome.next.injEq] at h; subst h; constructor <;> rfl
  | dspEncode =>
    obtain ⟨m, -, h⟩ := orFault_next.1 h
    simp only [Host.Outcome.next.injEq] at h; subst h; constructor <;> rfl
  | frTxErr => simp only [exec, execFrTxErr, Host.Outcome.next.injEq] at h; subst h; constructor <;> rfl
  | frTxByte =>
    obtain ⟨m, -, h⟩ := orFault_next.1 h
    simp only [Host.Outcome.next.injEq] at h; subst h; constructor <;> rfl
  | frTxStall => simp only [exec, execFrTxStall, Host.Outcome.next.injEq] at h; subst h; constructor <;> rfl
  | dspHalt => simp only [exec, execDspHalt, Host.Outcome.next.injEq] at h; subst h; constructor <;> rfl
  | _ => simp [ofDsp] at hi

/-- What the scheduler's operations can write. -/
theorem exec_schWrites {i : Instr} {s b : State} (hi : ofSch i = true) (h : exec i s = .next b) : SchWrites s b := by
  cases i with
  | schIdle => simp only [exec, execSchIdle, Host.Outcome.next.injEq] at h; subst h; constructor <;> rfl
  | schStart => simp only [exec, execSchStart, Host.Outcome.next.injEq] at h; subst h; constructor <;> rfl
  | schSpaceWait => simp only [exec, execSchSpaceWait, Host.Outcome.next.injEq] at h; subst h; constructor <;> rfl
  | schSpaceGo => simp only [exec, execSchSpaceGo, Host.Outcome.next.injEq] at h; subst h; constructor <;> rfl
  | schAttempt => simp only [exec, execSchAttempt, Host.Outcome.next.injEq] at h; subst h; constructor <;> rfl
  | schCheckOk => simp only [exec, execSchCheckOk, Host.Outcome.next.injEq] at h; subst h; constructor <;> rfl
  | schCheckTimeout => simp only [exec, execSchCheckTimeout, Host.Outcome.next.injEq] at h; subst h; constructor <;> rfl
  | schCheckRetry => simp only [exec, execSchCheckRetry, Host.Outcome.next.injEq] at h; subst h; constructor <;> rfl
  | _ => simp [ofSch] at hi

/-- `conclude` writes registers of the decoder and the hand-off to the scheduler. -/
theorem DecWrites.conclude {s t : State} (h : DecWrites s t) : DecWrites s t.conclude := by
  obtain ⟨h1, h2, h3, h4, h5, h6, h7, h8, h9, h10, h11, h12, h13, h14, h15, h16, h17, h18, h19, h20⟩ := h
  constructor <;> simp [*]

/-- What every edge operation can write. -/
theorem DecWrites.takeEdge {s t : State} (h : DecWrites s t) (l : Bool) : DecWrites s (t.takeEdge l) := by
  have h' : DecWrites s { t with edgeCnt := t.edgeCnt + 1, lastLevel := l, pulseCnt := 0#8 } := by
    obtain ⟨h1, h2, h3, h4, h5, h6, h7, h8, h9, h10, h11, h12, h13, h14, h15, h16, h17, h18, h19, h20⟩ := h
    constructor <;> assumption
  unfold State.takeEdge
  split
  · exact h'.conclude
  · exact h'

theorem DecWrites.refl (s : State) : DecWrites s s := by constructor <;> rfl

/-- What the decoder's operations can write. -/
theorem exec_decWrites {i : Instr} {s c : State} (hi : ofDec i = true) (h : exec i s = .next c) : DecWrites s c := by
  cases i with
  | decIdle => simp only [exec, execDecIdle, Host.Outcome.next.injEq] at h; subst h; exact DecWrites.refl s
  | decWakeLow =>
    simp only [exec, execDecWakeLow, Host.Outcome.next.injEq, State.wakeTick] at h; subst h
    split <;> constructor <;> rfl
  | decWakeHigh =>
    simp only [exec, execDecWakeHigh, Host.Outcome.next.injEq, State.wakeTick] at h; subst h
    split <;> constructor <;> rfl
  | decEdgeCap =>
    simp only [exec, execDecEdgeCap, Host.Outcome.next.injEq] at h; subst h
    exact DecWrites.conclude (by constructor <;> rfl)
  | decEdgeHold => simp only [exec, execDecEdgeHold, Host.Outcome.next.injEq] at h; subst h; constructor <;> rfl
  | decEdgePre =>
    simp only [exec, execDecEdgePre, Host.Outcome.next.injEq] at h; subst h; exact (DecWrites.refl s).takeEdge _
  | decEdgeBit =>
    simp only [exec, execDecEdgeBit, State.accumulate] at h
    split at h
    · rename_i t ht
      simp only [Host.Outcome.next.injEq] at h; subst h
      split at ht
      · cases ht
      · simp only [Option.some.injEq] at ht; subst ht
        exact DecWrites.takeEdge (by constructor <;> rfl) _
    · cases h
  | decEdgeExcess =>
    simp only [exec, execDecEdgeExcess, Host.Outcome.next.injEq] at h; subst h; exact (DecWrites.refl s).takeEdge _
  | decEdgeRise =>
    simp only [exec, execDecEdgeRise, Host.Outcome.next.injEq] at h; subst h; exact (DecWrites.refl s).takeEdge _
  | _ => simp [ofDec] at hi

/-! ### One tick -/

/-- The outcome of a tick in which one operation runs and the others hold. -/
def alone : Host.Outcome State Fault Refusal → Host.Outcome State Fault Refusal
  | .next t => .next t.advance
  | .fault f => .fault f
  | .refused r => .refused r

/-- A tick in which only the dispatcher's operation writes. -/
theorem runOps_dsp {d c e : Instr} (hd : ofDsp d = true) (hc : holds c = true) (he : holds e = true) (s : State) :
    runOps d c e s = alone (exec d s) := by
  unfold runOps
  rw [exec_of_holds hc, exec_of_holds he]
  cases h : exec d s with
  | next a => simp [alone, merge_of_dspWrites (exec_dspWrites hd h)]
  | fault f => rfl
  | refused r => rfl

/-- A tick in which only the scheduler's operation writes. -/
theorem runOps_sch {d c e : Instr} (hd : holds d = true) (hc : ofSch c = true) (he : holds e = true) (s : State) :
    runOps d c e s = alone (exec c s) := by
  unfold runOps
  rw [exec_of_holds hd, exec_of_holds he]
  cases h : exec c s with
  | next b => simp [alone, merge_of_schWrites (exec_schWrites hc h)]
  | fault f => rfl
  | refused r => rfl

/-- A tick in which only the decoder's operation writes. -/
theorem runOps_dec {d c e : Instr} (hd : holds d = true) (hc : holds c = true) (he : ofDec e = true) (s : State) :
    runOps d c e s = alone (exec e s) := by
  unfold runOps
  rw [exec_of_holds hd, exec_of_holds hc]
  cases h : exec e s with
  | next x => simp [alone, merge_of_decWrites (exec_decWrites he h)]
  | fault f => rfl
  | refused r => rfl

/-! ### The step, inverted -/

/-- Everything a tick with `rst` = 0 that answers a next state can do. -/
theorem tick_next {s t : State} (h : s.tick = .next t) :
    s.codesLegal = true ∧ ∃ d c e a b x, decode s.dspWord = .ok d ∧ decode s.schWord = .ok c ∧ decode s.decWord = .ok e ∧
      clashes d c e s = false ∧ exec d s = .next a ∧ exec c s = .next b ∧ exec e s = .next x ∧
      t = (merge s a b x).advance := by
  unfold State.tick at h
  split at h
  · rename_i hl
    refine ⟨hl, ?_⟩
    split at h
    · rename_i d c e hd hc he
      split at h
      · cases h
      · rename_i hcl
        unfold runOps at h
        split at h
        · cases h
        · cases h
        · rename_i a ha
          split at h
          · cases h
          · cases h
          · rename_i b hb
            split at h
            · cases h
            · cases h
            · rename_i x hx
              cases h
              exact ⟨d, c, e, a, b, x, hd, hc, he, by simpa using hcl, ha, hb, hx, rfl⟩
    · cases h
  · cases h

/-- Everything a step that answers a next state can do. -/
theorem step_next {s t : State} (h : step s = .next t) :
    s.params.legal = true ∧
      ((s.pins.rst = true ∧ t = s.resetTick) ∨ (s.pins.rst = false ∧ s.tick = .next t)) := by
  unfold step at h
  split at h
  · cases h
  · rename_i h1
    refine ⟨by simpa using h1, ?_⟩
    split at h
    · rename_i h2; cases h; exact .inl ⟨h2, rfl⟩
    · rename_i h2; exact .inr ⟨by simpa using h2, h⟩

/-- The step of a configured block in a tick with `rst` = 0 is its tick. -/
theorem step_eq_tick {s : State} (h1 : s.params.legal = true) (h2 : s.pins.rst = false) : step s = s.tick := by
  simp [step, h1, h2]

end Sys2Proof.Machine
end

