-- ==== Sys2Proof/Laws/Select.lean ====
section
/-!
SUPPORT. Which operation each sequencer selects (30_encoding.md R104), said once for every state.
-/

namespace Sys2Proof.Machine

/-- The dispatcher's operation, by state code and input port (R104). -/
theorem decode_dspWord (s : State) :
    decode s.dspWord =
      match s.dspState.toNat with
      | 0 => .ok (if s.pins.initFail then .dspInitFail else .dspInitOk)
      | 1 => .ok (if s.pins.inErr then .frRxErr .hdr0 else if s.pins.inValid then .frRxHdr0
          else if s.pins.inEof then .frRxEof .hdr0 else .frRxStall .hdr0)
      | 2 => .ok (if s.pins.inErr then .frRxErr .hdr1 else if s.pins.inValid then .frRxHdr1
          else if s.pins.inEof then .frRxEof .hdr1 else .frRxStall .hdr1)
      | 3 => .ok (if s.pins.inErr then .frRxErr .pay else if s.pins.inValid then .frRxPay
          else if s.pins.inEof then .frRxEof .pay else .frRxStall .pay)
      | 4 => .ok (if s.hasCommand then .dspDecodeOk else .dspDecodeFault)
      | 5 => .ok .dspExec
      | 6 => .ok .dspEncode
      | 7 => .ok (if s.pins.outErr then .frTxErr else if s.pins.outReady then .frTxByte else .frTxStall)
      | 8 => .ok .dspHalt
      | _ => .error .reservedDspState := by
  simp only [State.dspWord, decode, decodeDsp, dspVector_code, dspVector_initFail, dspVector_inErr, dspVector_inValid,
    dspVector_inEof, dspVector_outErr, dspVector_outReady] <;> rfl

/-- The scheduler's operation, by state code and the conditions w, v, d (R104). -/
theorem decode_schWord (s : State) :
    decode s.schWord =
      match s.schState.toNat with
      | 0 => .ok .schIdle
      | 1 => .ok .schStart
      | 2 => .ok (if s.spacingWait then .schSpaceWait else .schSpaceGo)
      | 3 => .ok .schAttempt
      | 4 => .ok (if s.resValid then .schCheckOk else if s.deadlinePassed then .schCheckTimeout else .schCheckRetry)
      | _ => .error .reservedSchState := by
  simp only [State.schWord, decode, decodeSch, schVector_code, schVector_w, schVector_v, schVector_d] <;> rfl

/-- The decoder's operation, by state code and the conditions e, c, p, s, b (R104). -/
theorem decode_decWord (s : State) :
    decode s.decWord =
      .ok (match s.decState.toNat with
      | 0 => .decIdle
      | 1 => .decWakeLow
      | 2 => .decWakeHigh
      | _ =>
        if s.isEdge then
          if s.inPreamble then .decEdgePre else if s.pins.gpioIn then .decEdgeRise
          else if s.wantsBit then .decEdgeBit else .decEdgeExcess
        else if s.atCap then .decEdgeCap
        else .decEdgeHold) := by
  simp only [State.decWord, decode, decodeDec, decVector_code, decVector_e, decVector_c, decVector_p, decVector_s,
    decVector_b] <;> rfl

/-- A dispatcher vector selects an operation of the dispatcher or the framer. -/
theorem ofDsp_of_decode {s : State} {d : Instr} (h : decode s.dspWord = .ok d) : ofDsp d = true := by
  rw [decode_dspWord] at h
  split at h <;> first | (cases h; rfl) | (simp only [Except.ok.injEq] at h; subst h; split_ifs <;> rfl) | cases h

/-- A scheduler vector selects an operation of the scheduler. -/
theorem ofSch_of_decode {s : State} {c : Instr} (h : decode s.schWord = .ok c) : ofSch c = true := by
  rw [decode_schWord] at h
  split at h <;> first | (cases h; rfl) | (simp only [Except.ok.injEq] at h; subst h; split_ifs <;> rfl) | cases h

/-- A decoder vector selects an operation of the decoder. -/
theorem ofDec_of_decode {s : State} {e : Instr} (h : decode s.decWord = .ok e) : ofDec e = true := by
  rw [decode_decWord] at h
  simp only [Except.ok.injEq] at h; subst h
  split <;> first | rfl | (split_ifs <;> rfl)

/-! ### One sequencer in control -/

theorem schIdle_of_idle {s : State} (h : s.schState = schIDLE) : decode s.schWord = .ok .schIdle := by
  rw [decode_schWord, h]; rfl

theorem decIdle_of_idle {s : State} (h : s.decState = decIDLE) : decode s.decWord = .ok .decIdle := by
  rw [decode_decWord, h]; rfl

theorem dspExec_of_exec {s : State} (h : s.dspState = dspEXEC) : decode s.dspWord = .ok .dspExec := by
  rw [decode_dspWord, h]; rfl

theorem schAttempt_of_attempt {s : State} (h : s.schState = schATTEMPT) : decode s.schWord = .ok .schAttempt := by
  rw [decode_schWord, h]; rfl

theorem not_clashes_dsp {s : State} {d : Instr} : clashes d .schIdle .decIdle s = false := by
  cases d <;> rfl

theorem not_clashes_sch {s : State} {c : Instr} : clashes .dspExec c .decIdle s = false := by
  cases c <;> rfl

theorem not_clashes_dec {s : State} {e : Instr} : clashes .dspExec .schAttempt e s = false := by
  simp [clashes, holds]

/-- A tick with the dispatcher in control. -/
theorem tick_dsp {s : State} {d : Instr} (hl : s.codesLegal = true) (hd : decode s.dspWord = .ok d)
    (hc : s.schState = schIDLE) (he : s.decState = decIDLE) : s.tick = alone (exec d s) := by
  simp only [State.tick, hl, if_true, hd, schIdle_of_idle hc, decIdle_of_idle he, not_clashes_dsp, Bool.false_eq_true,
    if_false]
  exact runOps_dsp (ofDsp_of_decode hd) rfl rfl s

/-- A tick with the scheduler in control. -/
theorem tick_sch {s : State} {c : Instr} (hl : s.codesLegal = true) (hd : s.dspState = dspEXEC)
    (hc : decode s.schWord = .ok c) (he : s.decState = decIDLE) : s.tick = alone (exec c s) := by
  simp only [State.tick, hl, if_true, hc, dspExec_of_exec hd, decIdle_of_idle he, not_clashes_sch, Bool.false_eq_true,
    if_false]
  exact runOps_sch rfl (ofSch_of_decode hc) rfl s

/-- A tick with the decoder in control. -/
theorem tick_dec {s : State} {e : Instr} (hl : s.codesLegal = true) (hd : s.dspState = dspEXEC)
    (hc : s.schState = schATTEMPT) (he : decode s.decWord = .ok e) : s.tick = alone (exec e s) := by
  simp only [State.tick, hl, if_true, dspExec_of_exec hd, schAttempt_of_attempt hc, he, not_clashes_dec,
    Bool.false_eq_true, if_false]
  exact runOps_dec rfl rfl (ofDec_of_decode he) s

end Sys2Proof.Machine
end

