-- ==== Sys2Proof/Tests/Slice0.lean ====
section
/-!
SUPPORT. The model's own tests. Expected values come from outside the model: the vectors of 95_test_vectors.md, each test named
after its vector, and the patterns of opcode_table.json written out bit by bit, a don't-care bit set to 1. A `witness_` theorem
shows a concrete state and operands that meet all hypotheses of the obligation it is named after.
-/

namespace Sys2Proof.Tests

open Sys2Proof Sys2Proof.Machine

/-! ### WellFormed: an ill-formed term for each check -/

theorem test_wellFormed_frame : (Instr.frame (List.replicate 65536 0#8)).wellFormed = false := by
  simp only [Instr.wellFormed, List.length_replicate]; decide

theorem test_wellFormed_msgRead : (Instr.msgRead 0x80000000#32).wellFormed = false := by decide

theorem test_wellFormed_msgOk : (Instr.msgOk 0#16 0x8000#16).wellFormed = false := by decide

/-! ### Decoding: every constructor from a word of its row -/

theorem test_decode_dsp_rows :
    decode (.dsp 0b0000111111#10 true) = .ok .dspInitFail ∧
    decode (.dsp 0b0000011111#10 true) = .ok .dspInitOk ∧
    decode (.dsp 0b0001111111#10 true) = .ok (.frRxErr .hdr0) ∧
    decode (.dsp 0b0010010000#10 true) = .ok (.frRxErr .hdr1) ∧
    decode (.dsp 0b0011010100#10 true) = .ok (.frRxErr .pay) ∧
    decode (.dsp 0b0001101111#10 true) = .ok .frRxHdr0 ∧
    decode (.dsp 0b0010101111#10 true) = .ok .frRxHdr1 ∧
    decode (.dsp 0b0011101111#10 true) = .ok .frRxPay ∧
    decode (.dsp 0b0001100111#10 true) = .ok (.frRxEof .hdr0) ∧
    decode (.dsp 0b0010000100#10 true) = .ok (.frRxEof .hdr1) ∧
    decode (.dsp 0b0011100111#10 true) = .ok (.frRxEof .pay) ∧
    decode (.dsp 0b0001100011#10 true) = .ok (.frRxStall .hdr0) ∧
    decode (.dsp 0b0010000000#10 true) = .ok (.frRxStall .hdr1) ∧
    decode (.dsp 0b0011100011#10 true) = .ok (.frRxStall .pay) ∧
    decode (.dsp 0b0100111111#10 true) = .ok .dspDecodeOk ∧
    decode (.dsp 0b0100111111#10 false) = .ok .dspDecodeFault ∧
    decode (.dsp 0b0101111111#10 true) = .ok .dspExec ∧
    decode (.dsp 0b0110111111#10 true) = .ok .dspEncode ∧
    decode (.dsp 0b0111111111#10 true) = .ok .frTxErr ∧
    decode (.dsp 0b0111111101#10 true) = .ok .frTxByte ∧
    decode (.dsp 0b0111111100#10 true) = .ok .frTxStall ∧
    decode (.dsp 0b1000111111#10 true) = .ok .dspHalt ∧
    decode (.dsp 0b1001000000#10 true) = .error .reservedDspState ∧
    decode (.dsp 0b1111111111#10 false) = .error .reservedDspState := by decide

theorem test_decode_sch_rows :
    decode (.sch 0b000111#6) = .ok .schIdle ∧
    decode (.sch 0b001111#6) = .ok .schStart ∧
    decode (.sch 0b010111#6) = .ok .schSpaceWait ∧
    decode (.sch 0b010011#6) = .ok .schSpaceGo ∧
    decode (.sch 0b011111#6) = .ok .schAttempt ∧
    decode (.sch 0b100111#6) = .ok .schCheckOk ∧
    decode (.sch 0b100101#6) = .ok .schCheckTimeout ∧
    decode (.sch 0b100100#6) = .ok .schCheckRetry ∧
    decode (.sch 0b101000#6) = .error .reservedSchState ∧
    decode (.sch 0b111111#6) = .error .reservedSchState := by decide

theorem test_decode_dec_rows :
    decode (.dec 0b0011111#7) = .ok .decIdle ∧
    decode (.dec 0b0111111#7) = .ok .decWakeLow ∧
    decode (.dec 0b1011111#7) = .ok .decWakeHigh ∧
    decode (.dec 0b1101111#7) = .ok .decEdgeCap ∧
    decode (.dec 0b1100111#7) = .ok .decEdgeHold ∧
    decode (.dec 0b1111111#7) = .ok .decEdgePre ∧
    decode (.dec 0b1111001#7) = .ok .decEdgeBit ∧
    decode (.dec 0b1111000#7) = .ok .decEdgeExcess ∧
    decode (.dec 0b1111011#7) = .ok .decEdgeRise := by decide

/-- The wire rows: a frame, COD-1, COD-7 (the tag 98 form), COD-E5 and COD-E7; and the rejections. -/
theorem test_decode_wire_rows :
    decode (.frame [0x00, 0x02, 0x83, 0x68]) = .ok (.frame [0x83, 0x68]) ∧
    decode (.frame [0x00, 0x00]) = .ok (.frame []) ∧
    decode (.frame [0x00, 0x02, 0x83]) = .error .shortFrame ∧
    decode (.frame [0x00, 0x00, 0x83]) = .error .longFrame ∧
    decode (.message [0x83, 0x68, 0x02, 0x64, 0x00, 0x04, 0x72, 0x65, 0x61, 0x64, 0x61, 0x00]) = .ok (.msgRead 0) ∧
    decode (.message [0x83, 0x68, 0x02, 0x64, 0x00, 0x04, 0x72, 0x65, 0x61, 0x64, 0x62, 0x7F, 0xFF, 0xFF, 0xFF]) =
      .ok (.msgRead 2147483647) ∧
    decode (.message [0x83, 0x68, 0x03, 0x64, 0x00, 0x02, 0x6F, 0x6B, 0x62, 0x00, 0x00, 0x02, 0x26, 0x62, 0xFF, 0xFF, 0xFF,
      0x9B]) = .ok (.msgOk 550 0xFF9B) ∧
    decode (.message [0x83, 0x68, 0x01, 0x64, 0x00, 0x07, 0x74, 0x69, 0x6D, 0x65, 0x6F, 0x75, 0x74]) = .ok .msgTimeout ∧
    decode (.message []) = .error (.badMessage .version) := by decide

/-! ### The codec: COD-3 to COD-30 and COD-E1 to COD-E9 -/

theorem test_codec_reads :
    codecDecode Params.default [0x83, 0x68, 0x02, 0x77, 0x04, 0x72, 0x65, 0x61, 0x64, 0x61, 0x05] = .read 5 ∧
    codecDecode Params.default [0x83, 0x68, 0x02, 0x73, 0x04, 0x72, 0x65, 0x61, 0x64, 0x61, 0x05] = .read 5 ∧
    codecDecode Params.default [0x83, 0x68, 0x02, 0x76, 0x00, 0x04, 0x72, 0x65, 0x61, 0x64, 0x61, 0x05] = .read 5 ∧
    codecDecode Params.default [0x83, 0x69, 0x00, 0x00, 0x00, 0x02, 0x64, 0x00, 0x04, 0x72, 0x65, 0x61, 0x64, 0x61, 0x07] =
      .read 7 ∧
    codecDecode Params.default [0x83, 0x68, 0x02, 0x64, 0x00, 0x04, 0x72, 0x65, 0x61, 0x64, 0x61, 0x00, 0xFF, 0xFF] =
      .read 0 := by decide

theorem test_codec_faults :
    codecDecode Params.default [0x82, 0x68, 0x02, 0x64, 0x00, 0x04, 0x72, 0x65, 0x61, 0x64, 0x61, 0x00] = .fault .version ∧
    codecDecode Params.default [0x83] = .fault .field ∧
    codecDecode Params.default [0x83, 0x6A] = .fault .field ∧
    codecDecode Params.default [0x83, 0x69, 0x00, 0x00, 0x00] = .fault .field ∧
    codecDecode Params.default [0x83, 0x68, 0x03, 0x64, 0x00, 0x04, 0x72, 0x65, 0x61, 0x64, 0x61, 0x00, 0x61, 0x00] =
      .fault .arity ∧
    codecDecode Params.default [0x83, 0x68, 0x02] = .fault .field ∧
    codecDecode Params.default [0x83, 0x68, 0x02, 0x64, 0x00, 0x05, 0x72, 0x65, 0x61, 0x64] = .fault .field ∧
    codecDecode Params.default [0x83, 0x68, 0x02, 0x61, 0x00, 0x61, 0x00] = .fault .atom ∧
    codecDecode Params.default [0x83, 0x68, 0x02, 0x64, 0x00, 0x05, 0x72, 0x65, 0x61, 0x64, 0x73, 0x61, 0x00] = .fault .atom ∧
    codecDecode Params.default [0x83, 0x68, 0x02, 0x64, 0x00, 0x00, 0x61, 0x00] = .fault .atom ∧
    codecDecode Params.default [0x83, 0x68, 0x02, 0x64, 0x00, 0x04, 0x72, 0x65, 0x61, 0x64, 0x61] = .fault .field ∧
    codecDecode Params.default [0x83, 0x68, 0x02, 0x64, 0x00, 0x04, 0x72, 0x65, 0x61, 0x64, 0x62, 0xFF, 0xFF, 0xFF, 0xFF] =
      .fault .field ∧
    codecDecode Params.default [0x83, 0x68, 0x02, 0x64, 0x00, 0x04, 0x72, 0x65, 0x61, 0x64, 0x6A] = .fault .field := by decide

theorem test_codec_responses :
    codecEncode Params.default (.ok 550 231) =
      [0x83, 0x68, 0x03, 0x64, 0x00, 0x02, 0x6F, 0x6B, 0x62, 0x00, 0x00, 0x02, 0x26, 0x61, 0xE7] ∧
    codecEncode Params.default (.ok 255 256) =
      [0x83, 0x68, 0x03, 0x64, 0x00, 0x02, 0x6F, 0x6B, 0x61, 0xFF, 0x62, 0x00, 0x00, 0x01, 0x00] ∧
    codecEncode Params.default (.ok 65535 (-32767)) =
      [0x83, 0x68, 0x03, 0x64, 0x00, 0x02, 0x6F, 0x6B, 0x62, 0x00, 0x00, 0xFF, 0xFF, 0x62, 0xFF, 0xFF, 0x80, 0x01] ∧
    codecEncode { Params.default with atomOutTag := .smallAtomUtf8Ext } .timeout =
      [0x83, 0x68, 0x01, 0x77, 0x07, 0x74, 0x69, 0x6D, 0x65, 0x6F, 0x75, 0x74] := by decide

/-! ### The validator: VAL-1, VAL-2, VAL-5 to VAL-9 -/

theorem test_validator :
    checksumOk ⟨0x02, 0x26, 0x00, 0xE7, 0x0F⟩ = true ∧ checksumOk ⟨0x02, 0x26, 0x00, 0xE7, 0x10⟩ = false ∧
    checksumOk ⟨0xFF, 0xFF, 0xFF, 0xFF, 0xFC⟩ = true ∧ humidity ⟨0xFF, 0xFF, 0xFF, 0xFF, 0xFC⟩ = 65535 ∧
    temperature ⟨0xFF, 0xFF, 0xFF, 0xFF, 0xFC⟩ = -32767 ∧ temperature ⟨0x02, 0x26, 0x80, 0x65, 0x0D⟩ = -101 ∧
    temperature ⟨0x00, 0x00, 0x80, 0x00, 0x80⟩ = 0 ∧ temperature ⟨0x00, 0x00, 0x7F, 0xFF, 0x7E⟩ = 32767 ∧
    humidity ⟨0x03, 0xE9, 0x00, 0x00, 0xEC⟩ = 1001 := by decide

/-! ### Single ticks -/

/-- The inputs a vector of 95_test_vectors.md does not name. -/
def pins : Inputs := { quietPins with gpioIn := true, outReady := true }

/-- The three sequencers in given states, every other register at reset, one tick of inputs. -/
def at_ (d : BitVec 4) (c : BitVec 3) (e : BitVec 2) (i : Inputs) : State :=
  { State.reset with dspState := d, schState := c, decState := e, inputs := [i] }

/-- The edge decoder in a tick of its EDGE phase. -/
def edgeAt (i : Inputs) : State := at_ dspEXEC schATTEMPT decEDGE i

/-- One reading of the state after one step. -/
def next {α : Type} (f : State → α) (s : State) : Option α :=
  match step s with
  | .next t => some (f t)
  | _ => none

theorem test_DEC_1 : next State.pulseCnt { edgeAt pins with pulseCnt := 19 } = some 20 := by decide

theorem test_DEC_2 :
    next (fun t => (t.edgeCnt, t.lastLevel, t.pulseCnt)) { edgeAt { pins with gpioIn := false } with pulseCnt := 20 } =
      some (1, false, 0) := by decide

theorem test_DEC_3 :
    next (fun t => (t.pulseCnt, t.capHit, t.resValid, t.resCause, t.lastReadMs, t.schState))
      { edgeAt pins with timeUs := 18315, pulseCnt := 254 } = some (255, true, false, resNOBITS, 18, schCHECK) := by decide

theorem test_DEC_4 :
    next (fun t => (t.raw[0]?, t.bitCnt, t.edgeCnt, t.lastLevel, t.pulseCnt))
      { edgeAt { pins with gpioIn := false } with edgeCnt := 4, pulseCnt := 16 } = some (some 0, 1, 5, false, 0) := by decide

theorem test_DEC_6 :
    next (fun t => (t.raw, t.bitCnt))
      { edgeAt { pins with gpioIn := false } with
        edgeCnt := 20, bitCnt := 8, raw := [0x02, 0, 0, 0, 0], pulseCnt := 69 } = some ([0x02, 0x01, 0, 0, 0], 9) := by
  decide

theorem test_DEC_7 :
    next (fun t => (t.edgeCnt, t.lastLevel, t.pulseCnt, t.bitCnt))
      { edgeAt pins with edgeCnt := 5, bitCnt := 1, lastLevel := false, pulseCnt := 49 } = some (6, true, 0, 1) := by decide

theorem test_DEC_9 :
    next (fun t => (t.edgeCnt, t.resValid, t.resHum, t.resTemp, t.lastReadMs, t.schState))
      { edgeAt { pins with gpioIn := false } with
        timeUs := 21418, edgeCnt := 84, bitCnt := 40, raw := [0x02, 0x26, 0x00, 0xE7, 0x0F], pulseCnt := 10 } =
      some (85, true, 550, 231, 21, schCHECK) := by decide

theorem test_DEC_11 :
    next (fun t => (t.resValid, t.resCause, t.resHum, t.lastReadMs))
      { edgeAt pins with
        timeUs := 30000, edgeCnt := 82, bitCnt := 39, raw := [0x02, 0x26, 0x00, 0xE7, 0x07], pulseCnt := 254,
        resHum := 9 } = some (false, resNOBITS, 9, 30) := by decide

theorem test_DEC_14 :
    next (fun t => (t.decState, t.wakeCnt)) { at_ dspEXEC schATTEMPT decWAKELOW pins with wakeCnt := 17999 } =
      some (decWAKEHIGH, 0) := by decide

theorem test_DEC_15 :
    next (fun t => (t.decState, t.wakeCnt)) { at_ dspEXEC schATTEMPT decWAKEHIGH pins with wakeCnt := 39 } =
      some (decEDGE, 0) := by decide

theorem test_DEC_16 :
    next (fun t => (t.decState, t.wakeCnt, t.gpioOe, t.gpioOut))
      { at_ dspEXEC schATTEMPT decWAKELOW { pins with gpioIn := false } with wakeCnt := 5 } =
      some (decWAKELOW, 6, true, false) := by decide

/-- R10: with WAKE_LOW_US = 70000 the counter is as wide as it needs to be. -/
theorem test_wide_parameters :
    next (fun t => (t.decState, t.wakeCnt))
      { at_ dspEXEC schATTEMPT decWAKELOW pins with
        params := { Params.default with wakeLowUs := 70000 }, wakeCnt := 65535 } = some (decWAKELOW, 65536) := by decide

theorem test_DEC_17 :
    next (fun t => (t.dspState, t.schState, t.decState, t.timeUs))
      (at_ dspRXHDR0 schIDLE decIDLE { pins with gpioIn := false }) = some (dspRXHDR0, schIDLE, decIDLE, 1) := by decide

theorem test_SCH_1 :
    next (fun t => (t.deadlineMs, t.schState)) { at_ dspEXEC schSTART decIDLE pins with timeUs := 19, timeoutMs := 2000 } =
      some (2000, schSPACE) := by decide

theorem test_SCH_2 :
    next (fun t => (t.schState, t.decState, t.raw, t.edgeCnt, t.bitCnt, t.pulseCnt))
      { at_ dspEXEC schSPACE decIDLE pins with
        timeUs := 20, raw := [0x02, 0x26, 0x00, 0xE7, 0x0F], edgeCnt := 84, bitCnt := 40, pulseCnt := 255, capHit := true } =
      some (schATTEMPT, decWAKELOW, [0, 0, 0, 0, 0], 0, 0, 0) := by decide

theorem test_SCH_3 :
    next (fun t => (t.schState, t.decState))
      { at_ dspEXEC schSPACE decIDLE pins with timeUs := 2021999, lastReadValid := true, lastReadMs := 22 } =
      some (schSPACE, decIDLE) ∧
    next (fun t => (t.schState, t.decState))
      { at_ dspEXEC schSPACE decIDLE pins with timeUs := 2022000, lastReadValid := true, lastReadMs := 22 } =
      some (schATTEMPT, decWAKELOW) := by decide

theorem test_SCH_5 :
    next (fun t => (t.respKind, t.schState, t.dspState))
      { at_ dspEXEC schCHECK decIDLE pins with timeUs := 2000000, deadlineMs := 2000 } =
      some (.timeout, schIDLE, dspENCODE) := by decide

theorem test_SCH_8 :
    next (fun t => (t.schState, t.dspState))
      { at_ dspEXEC schCHECK decIDLE pins with timeUs := 1999999, deadlineMs := 2000 } = some (schSPACE, dspEXEC) := by decide

theorem test_SCH_9 :
    next (fun t => (t.respKind, t.schState, t.dspState))
      { at_ dspEXEC schCHECK decIDLE pins with
        timeUs := 2042399, deadlineMs := 2021, resValid := true, respKind := .timeout } =
      some (.ok, schIDLE, dspENCODE) := by decide

theorem test_FR_1 :
    next (fun t => (t.frLen, t.dspState, t.accepted))
      { at_ dspRXHDR0 schIDLE decIDLE { pins with inValid := true } with frLen := 0x000C } =
      some (0x000C, dspRXHDR1, [0x00]) := by decide

theorem test_FR_2 :
    next (fun t => (t.frLen, t.frCnt, t.dspState))
      { at_ dspRXHDR1 schIDLE decIDLE { pins with inValid := true, inByte := 0x0F } with frLen := 0x000C, frCnt := 12 } =
      some (0x000F, 0, dspRXPAY) := by decide

theorem test_FR_3 :
    next State.dspState (at_ dspRXHDR1 schIDLE decIDLE { pins with inValid := true }) = some dspDECODE ∧
    next State.dspState { at_ dspRXHDR1 schIDLE decIDLE { pins with inValid := true } with frLen := 0x0100 } =
      some dspRXPAY := by decide

theorem test_FR_6 :
    next (fun t => (t.rxBuf, t.frCnt, t.dspState))
      { at_ dspRXPAY schIDLE decIDLE { pins with inValid := true, inByte := 0xD0 } with
        frLen := 15, frCnt := 14, rxBuf := [(3, 0x01), (20, 0x02)] } =
      some ([(3, 0x01), (14, 0xD0), (20, 0x02)], 15, dspDECODE) := by decide

/-- R58, R211: between the prefix bytes of a later frame FR_CNT still counts the frame before, and may exceed FR_LEN (log 20). -/
theorem test_frame_count_above_length :
    next (fun t => (t.frLen, t.frCnt, t.dspState))
      { at_ dspRXHDR0 schIDLE decIDLE { pins with inValid := true } with frLen := 0x0100, frCnt := 0x0100 } =
      some (0x0000, 0x0100, dspRXHDR1) := by decide

/-- A safe state in RX_HDR0, a frame of 256 bytes behind it, offered the prefix byte 00. -/
def after256 : State :=
  { at_ dspRXHDR0 schIDLE decIDLE { pins with inValid := true } with frLen := 256, frCnt := 256 }

/-- R66 against R58 and R211: whatever FR.RX_HDR0 does else, if it writes FR_LEN[15:8] as R211 says and leaves FR_CNT to the writers R58
names, it takes FR_CNT above FR_LEN from a state in which they are equal (log 20). -/
theorem test_R66_conflicts_with_R211 (hdr0 : State → State)
    (len : ∀ s, (hdr0 s).frLen = s.pins.inByte.toNat * 256 + s.frLen % 256) (cnt : ∀ s, (hdr0 s).frCnt = s.frCnt) :
    ¬ ∀ s : State, s.frCnt ≤ s.frLen → (hdr0 s).frCnt ≤ (hdr0 s).frLen := by
  intro h
  have := h after256 (by decide)
  rw [len, cnt] at this
  exact absurd this (by decide)

/-- R9, R106: the second byte of a prefix of three, then its last. -/
theorem test_three_length_bytes :
    next (fun t => (t.frLen, t.hdrCnt, t.dspState))
      { at_ dspRXHDR1 schIDLE decIDLE { pins with inValid := true, inByte := 0xAB } with
        params := { Params.default with lenBytes := 3 }, frLen := 0x010000 } = some (0x01AB00, 1, dspRXHDR1) ∧
    next (fun t => (t.frLen, t.hdrCnt, t.dspState))
      { at_ dspRXHDR1 schIDLE decIDLE { pins with inValid := true, inByte := 0xCD } with
        params := { Params.default with lenBytes := 3 }, frLen := 0x01AB00, hdrCnt := 1 } = some (0x01ABCD, 0, dspRXPAY) := by
  decide

/-- R9, R40: TIME_US is TIME_W bits wide. -/
theorem test_time_width :
    next State.timeUs { at_ dspRXHDR0 schIDLE decIDLE pins with
      params := { Params.default with timeW := 70 }, timeUs := 2 ^ 64 - 1 } = some (2 ^ 64) := by decide

theorem test_FR_8 :
    next (fun t => (t.dspState, t.exitCode, t.faultCause, t.frCnt))
      { at_ dspRXPAY schIDLE decIDLE { pins with inEof := true } with frLen := 12, frCnt := 2 } =
      some (dspHALT, 0, 0, 2) := by decide

theorem test_FR_9 :
    next (fun t => (t.dspState, t.exitCode, t.faultCause, t.accepted))
      { at_ dspRXPAY schIDLE decIDLE { pins with inErr := true, inValid := true, inByte := 0x64, inEof := true } with
        frLen := 12, frCnt := 2 } = some (dspHALT, 1, 6, []) := by decide

theorem test_FR_10 :
    next (fun t => (t.rxBuf, t.frCnt, t.dspState))
      { at_ dspRXPAY schIDLE decIDLE { pins with inValid := true, inByte := 0x64, inEof := true } with
        frLen := 12, frCnt := 2 } = some ([(2, 0x64)], 3, dspRXPAY) := by decide

theorem test_FR_11 : next State.dspState (at_ dspRXHDR1 schIDLE decIDLE pins) = some dspRXHDR1 := by decide

/-- TX with a two-byte payload in TX_BUF. -/
def txAt (n : Nat) (i : Inputs) : State :=
  { at_ dspTX schIDLE decIDLE i with txBuf := [(0, 0x83), (1, 0x74)], txLen := 2, txCnt := n }

theorem test_FR_13 :
    next (fun t => (t.txCnt, t.emitted, t.dspState)) (txAt 1 pins) = some (2, [0x02], dspTX) ∧
    next (fun t => (t.txCnt, t.emitted, t.dspState)) (txAt 2 pins) = some (3, [0x83], dspTX) := by decide

theorem test_FR_15 :
    next (fun t => (t.txCnt, t.emitted)) (txAt 2 { pins with outReady := false }) = some (2, []) := by decide

theorem test_FR_16 :
    next (fun t => (t.dspState, t.exitCode, t.faultCause, t.emitted)) (txAt 2 { pins with outErr := true }) =
      some (dspHALT, 1, 7, []) := by decide

theorem test_FR_20 :
    next (fun t => (t.txCnt, t.emitted, t.dspState)) (txAt 3 pins) = some (4, [0x74], dspRXHDR0) := by decide

theorem test_DSP_1 : next State.dspState (at_ dspINIT schIDLE decIDLE pins) = some dspRXHDR0 := by decide

theorem test_DSP_2 :
    next (fun t => (t.dspState, t.exitCode, t.faultCause, t.accepted))
      (at_ dspINIT schIDLE decIDLE { pins with initFail := true, inValid := true }) = some (dspHALT, 1, 1, []) := by decide

/-- A payload as a received frame leaves it. -/
def received (p : List Byte) : State := (at_ dspDECODE schIDLE decIDLE pins).withPayload p

/-- The payload of COD-2. -/
def read2000 : List Byte := [0x83, 0x68, 0x02, 0x64, 0x00, 0x04, 0x72, 0x65, 0x61, 0x64, 0x62, 0x00, 0x00, 0x07, 0xD0]

theorem test_DSP_3 :
    next (fun t => (t.timeoutMs, t.dspState, t.schState)) (received read2000) = some (2000, dspEXEC, schSTART) := by decide

theorem test_DSP_4 :
    next (fun t => (t.dspState, t.exitCode, t.faultCause)) (received []) = some (dspHALT, 1, 2) := by decide

theorem test_DSP_5 :
    next (fun t => (t.txBuf.map Prod.snd, t.txLen, t.txCnt, t.dspState))
      { at_ dspENCODE schIDLE decIDLE pins with resHum := 550, resTemp := 231, txCnt := 9 } =
      some ([0x83, 0x68, 0x03, 0x64, 0x00, 0x02, 0x6F, 0x6B, 0x62, 0x00, 0x00, 0x02, 0x26, 0x61, 0xE7], 15, 0, dspTX) := by
  decide

theorem test_DSP_7 :
    next (fun t => (t.dspState, t.exitCode, t.faultCause, t.accepted))
      { at_ dspHALT schIDLE decIDLE { pins with inValid := true, inEof := true, inErr := true, initFail := true } with
        exitCode := 1, faultCause := 3 } = some (dspHALT, 1, 3, []) := by decide

theorem test_DSP_8 :
    next (fun t => (t.dspState, t.schState, t.wakeCnt))
      (at_ dspEXEC schATTEMPT decWAKELOW { pins with inValid := true, inErr := true, inEof := true, outErr := true }) =
      some (dspEXEC, schATTEMPT, 1) := by decide

theorem test_DSP_9 :
    next (fun t => (t.timeUs, t.dspState, t.exitCode, t.lastLevel))
      { at_ dspHALT schATTEMPT decEDGE { pins with rst := true } with timeUs := 77, exitCode := 1, lastLevel := false } =
      some (0, dspINIT, 0, true) := by decide

/-! ### The wire formats -/

/-- R218: the state at DECODE entry. -/
theorem test_frame :
    (match exec (.frame [0x83, 0x68]) (at_ dspRXHDR0 schIDLE decIDLE pins) with
    | .next t => (t.rxBuf, t.frLen, t.frCnt, t.dspState, t.accepted) ==
        ([(0, 0x83), (1, 0x68)], 2, 2, dspDECODE, [0x00, 0x02, 0x83, 0x68])
    | _ => false) = true := by decide

/-- COD-E7, R252. -/
theorem test_msgTimeout :
    (match exec .msgTimeout State.reset with
    | .next t => (t.txBuf.map Prod.snd, t.txLen) ==
        ([0x83, 0x68, 0x01, 0x64, 0x00, 0x07, 0x74, 0x69, 0x6D, 0x65, 0x6F, 0x75, 0x74], 13)
    | _ => false) = true := by decide

/-- COD-E4, R252. -/
theorem test_msgOk :
    (match exec (.msgOk 65535 0x8001) State.reset with
    | .next t => (t.txLen, t.dspState, t.txBuf.map Prod.snd) == (18, dspTX,
        [0x83, 0x68, 0x03, 0x64, 0x00, 0x02, 0x6F, 0x6B, 0x62, 0x00, 0x00, 0xFF, 0xFF, 0x62, 0xFF, 0xFF, 0x80, 0x01])
    | _ => false) = true := by decide

/-- R249. -/
theorem test_msgRead :
    (match exec (.msgRead 7) State.reset with
    | .next t => (t.timeoutMs, t.dspState, t.schState) == (7, dspEXEC, schSTART)
    | _ => false) = true := by decide

/-! ### Table words -/

theorem test_tableWord :
    decodeTableWord 16 0b0011001000 = some .frRxPay ∧ decodeTableWord 8 0b010100 = some .schSpaceWait ∧
    decodeTableWord 8 0b1110001 = some .decEdgeBit ∧ decodeTableWord 16 0x0100 = some .dspDecodeOk ∧
    decodeTableWord 16 0x0200 = some .dspHalt ∧ decodeTableWord 8 0xFF = none ∧
    decodeTableWord 96 0x05616461657204006402_6883 = some (.msgRead 5) ∧
    decodeTableWord 104 0x74756F656D697407006401_6883 = some .msgTimeout := by decide

theorem test_withFetchWord :
    next (fun t => (t.rxBuf, t.accepted)) (State.reset.withFetchWord 16 0b0011001000) = some ([(0, 0)], [0]) ∧
    next State.pulseCnt (State.reset.withFetchWord 8 0b1100000) = some 1 ∧
    next (fun t => (t.timeoutMs, t.schState)) (State.reset.withFetchWord 96 0x05616461657204006402_6883) =
      some (5, schSTART) ∧
    next (fun t => (t.dspState, t.txLen)) (State.reset.withFetchWord 104 0x74756F656D697407006401_6883) =
      some (dspTX, 13) := by decide

/-! ### Witnesses: the hypotheses of every obligation are met -/

theorem configured_default {s : State} (h : s.params = Params.default) : s.configured := by
  unfold State.configured; rw [h]; decide

theorem witness_DecodeOfEncode :
    (Instr.frame []).wellFormed = true ∧ (Instr.frame (List.replicate 65535 0#8)).wellFormed = true ∧
    (Instr.msgRead 0x7FFFFFFF#32).wellFormed = true ∧ (Instr.msgOk 0xFFFF#16 0x8001#16).wellFormed = true := by
  refine ⟨by decide, ?_, by decide, by decide⟩
  simp only [Instr.wellFormed, List.length_replicate]; decide

theorem witness_DecodedVectorsMatchTheirRows :
    decode (.dsp 0b0011101111#10 true) = .ok .frRxPay ∧ decode (.sch 0b010111#6) = .ok .schSpaceWait ∧
    decode (.dec 0b1111001#7) = .ok .decEdgeBit := by decide

/-- The longest payload of the default prefix, and of one of one byte. -/
theorem witness_FrameReadsBack :
    (List.replicate 65535 0#8).length < 256 ^ 2 ∧ (List.replicate 255 0#8).length < 256 ^ 1 ∧ ([] : List Byte).length < 256 ^ 0 := by
  simp only [List.length_replicate]; decide

/-! #### One sequencer in control -/

/-- A tick that offers the request byte 01. -/
def offer : Inputs := { pins with inValid := true, inByte := 0x01 }

theorem dspTurn_at {s : State} (hp : s.params = Params.default) (hr : s.pins.rst = false) (hl : s.codesLegal = true)
    (hc : s.schState = schIDLE) (hd : s.decState = decIDLE) : s.DspTurn :=
  ⟨⟨configured_default hp, hr, hl⟩, hc, hd⟩

theorem schTurn_at {s : State} (hp : s.params = Params.default) (hr : s.pins.rst = false) (hl : s.codesLegal = true)
    (hc : s.dspState = dspEXEC) (hd : s.decState = decIDLE) : s.SchTurn :=
  ⟨⟨configured_default hp, hr, hl⟩, hc, hd⟩

theorem decTurn_at {s : State} (hp : s.params = Params.default) (hr : s.pins.rst = false) (hl : s.codesLegal = true)
    (hc : s.dspState = dspEXEC) (hd : s.schState = schATTEMPT) : s.DecTurn :=
  ⟨⟨configured_default hp, hr, hl⟩, hc, hd⟩

theorem witness_StepRunsSelectedOperations :
    let s := at_ dspRXHDR0 schIDLE decIDLE offer;
    s.Running ∧ decode s.dspWord = .ok .frRxHdr0 ∧ decode s.schWord = .ok .schIdle ∧ decode s.decWord = .ok .decIdle ∧
    clashes .frRxHdr0 .schIdle .decIdle s = false ∧
    exec .frRxHdr0 s = .next { s with frLen := 0x0100, dspState := dspRXHDR1, accepted := [0x01] } ∧
    exec .schIdle s = .next s ∧ exec .decIdle s = .next s :=
  ⟨⟨configured_default rfl, rfl, by decide⟩, by decide, by decide, by decide, by decide, rfl, rfl, rfl⟩

theorem witness_StepRunsTheSequencerInControl_dsp :
    let s := at_ dspINIT schIDLE decIDLE pins;
    exec .dspInitOk s = .next { s with dspState := dspRXHDR0 } ∧ s.DspTurn ∧ decode s.dspWord = .ok .dspInitOk :=
  ⟨rfl, dspTurn_at rfl rfl (by decide) rfl rfl, by decide⟩

theorem witness_StepRunsTheSequencerInControl_sch :
    let s := { at_ dspEXEC schCHECK decIDLE pins with resValid := true };
    exec .schCheckOk s = .next (s.respond .ok) ∧ s.SchTurn ∧ decode s.schWord = .ok .schCheckOk :=
  ⟨rfl, schTurn_at rfl rfl (by decide) rfl rfl, by decide⟩

theorem witness_StepRunsTheSequencerInControl_dec :
    let s := edgeAt pins;
    exec .decEdgeHold s = .next { s with pulseCnt := 1 } ∧ s.DecTurn ∧ decode s.decWord = .ok .decEdgeHold :=
  ⟨rfl, decTurn_at rfl rfl (by decide) rfl rfl, by decide⟩

theorem witness_ReservedCodesAreRefused :
    (let s := at_ 9#4 schIDLE decIDLE pins;
      s.configured ∧ s.pins.rst = false ∧ 9 ≤ s.dspState.toNat) ∧
    (let s := at_ dspEXEC 5#3 decIDLE pins;
      s.configured ∧ s.pins.rst = false ∧ 5 ≤ s.schState.toNat) :=
  ⟨⟨configured_default rfl, rfl, by decide⟩, ⟨configured_default rfl, rfl, by decide⟩⟩

/-- Each condition broken at its boundary, and the default, which breaks none. -/
theorem witness_IllegalParametersAreRefused :
    Params.default.legal = true ∧
    ∀ p ∈ [{ Params.default with wakeLowUs := 0 }, { Params.default with wakeHighUs := 0 },
        { Params.default with edgeCap := 0 }, { Params.default with edgeCap := 256 }, { Params.default with maxEdges := 0 },
        { Params.default with numBits := 39 }, { Params.default with rawBytes := 4 },
        { Params.default with pulseThreshold := 255 }, { Params.default with timeoutMax := 2 ^ 64 },
        { Params.default with timeW := 30 }, { Params.default with faultExit := 0 }, { Params.default with lenBytes := 0 }],
      p.legal = false := by decide

theorem witness_ResetTickGivesTheResetState :
    let s := at_ dspHALT schATTEMPT decEDGE { pins with rst := true };
    s.configured ∧ s.pins.rst = true := ⟨configured_default rfl, rfl⟩

theorem witness_InitEntersTheLoopOrFaults :
    (at_ dspINIT schIDLE decIDLE pins).DspTurn ∧ (at_ dspINIT schIDLE decIDLE { pins with initFail := true }).DspTurn :=
  ⟨dspTurn_at rfl rfl (by decide) rfl rfl, dspTurn_at rfl rfl (by decide) rfl rfl⟩

theorem witness_StreamErrorsTakeTheFault :
    (∀ d ∈ [dspRXHDR0, dspRXHDR1, dspRXPAY],
      let s := at_ d schIDLE decIDLE { offer with inErr := true, inEof := true };
      s.DspTurn ∧ s.inReady = true ∧ s.pins.inErr = true) ∧
    (let s := txAt 0 { pins with outErr := true };
      s.DspTurn ∧ s.dspState = dspTX ∧ s.pins.outErr = true) := by
  refine ⟨?_, dspTurn_at rfl rfl (by decide) rfl rfl, rfl, rfl⟩
  simp only [List.mem_cons, List.not_mem_nil, or_false, forall_eq_or_imp, forall_eq]
  exact ⟨⟨dspTurn_at rfl rfl (by decide) rfl rfl, by decide, rfl⟩, ⟨dspTurn_at rfl rfl (by decide) rfl rfl, by decide, rfl⟩,
    dspTurn_at rfl rfl (by decide) rfl rfl, by decide, rfl⟩

theorem witness_EndOfStreamStopsCleanly :
    ∀ d ∈ [dspRXHDR0, dspRXHDR1, dspRXPAY],
      let s := at_ d schIDLE decIDLE { pins with inEof := true };
      s.DspTurn ∧ s.inReady = true ∧ s.pins.inErr = false ∧ s.pins.inValid = false ∧ s.pins.inEof = true := by
  simp only [List.mem_cons, List.not_mem_nil, or_false, forall_eq_or_imp, forall_eq]
  exact ⟨⟨dspTurn_at rfl rfl (by decide) rfl rfl, by decide, rfl, rfl, rfl⟩,
    ⟨dspTurn_at rfl rfl (by decide) rfl rfl, by decide, rfl, rfl, rfl⟩,
    dspTurn_at rfl rfl (by decide) rfl rfl, by decide, rfl, rfl, rfl⟩

/-- Each clause at the first value it takes. -/
theorem witness_StopsOfUnselectedOperations :
    (received []).codecResult = .ok (.fault .version) ∧ (received read2000).codecResult = .ok (.read 2000) ∧
    Params.default.payloadMax < ({ State.reset with frLen := 65536 } : State).frLen ∧
    State.reset.raw.length ≤ ({ State.reset with bitCnt := 40 } : State).bitCnt / 8 ∧
    Params.default.payloadMax ≤ ({ State.reset with frCnt := 65535 } : State).frCnt ∧
    Params.default.txMax + Params.default.lenBytes ≤ ({ State.reset with txCnt := 20 } : State).txCnt ∧
    (∀ p : Params, p.lenBytes = 0 → 256 ^ p.lenBytes ≤ [0#8].length) ∧
    (65534 < State.reset.params.payloadMax ∧ State.reset.rxBuf.read 65534 = none) ∧
    ((txAt 19 pins).dspState = dspTX ∧ (txAt 19 pins).params.lenBytes ≤ (txAt 19 pins).txCnt ∧
      (txAt 19 pins).txCnt - (txAt 19 pins).params.lenBytes < (txAt 19 pins).params.txMax ∧
      (txAt 19 pins).txBuf.read ((txAt 19 pins).txCnt - (txAt 19 pins).params.lenBytes) = none) :=
  ⟨by decide, by decide, by decide, by decide, by decide, by decide, fun p h => by rw [h]; decide, by decide, by decide⟩

/-! #### Receiving -/

theorem dspTurn_of {s : State} (hp : s.params.legal = true) (hr : s.pins.rst = false) (hl : s.codesLegal = true)
    (hc : s.schState = schIDLE) (hd : s.decState = decIDLE) : s.DspTurn := ⟨⟨hp, hr, hl⟩, hc, hd⟩

/-- Prefixes of one, two and three bytes. -/
theorem witness_HeaderHighByte :
    ∀ n ∈ [1, 2, 3],
      let s := { at_ dspRXHDR0 schIDLE decIDLE offer with params := { Params.default with lenBytes := n } };
      s.DspTurn ∧ s.dspState = dspRXHDR0 ∧ s.pins.inErr = false ∧ s.pins.inValid = true := by
  simp only [List.mem_cons, List.not_mem_nil, or_false, forall_eq_or_imp, forall_eq]
  exact ⟨⟨dspTurn_of (by decide) rfl (by decide) rfl rfl, rfl, rfl, rfl⟩,
    ⟨dspTurn_of (by decide) rfl (by decide) rfl rfl, rfl, rfl, rfl⟩,
    dspTurn_of (by decide) rfl (by decide) rfl rfl, rfl, rfl, rfl⟩

/-- The second byte of a prefix of three, which is not the last. -/
theorem witness_HeaderLowByte_earlier :
    let s := { at_ dspRXHDR1 schIDLE decIDLE offer with params := { Params.default with lenBytes := 3 } };
    s.params.lenBytes = s.hdrCnt + 2 + (0 + 1) ∧ s.DspTurn ∧ s.dspState = dspRXHDR1 ∧ s.pins.inErr = false ∧
      s.pins.inValid = true := ⟨rfl, dspTurn_of (by decide) rfl (by decide) rfl rfl, rfl, rfl, rfl⟩

/-- The last byte of the prefix: a length of 1 and, with the byte 00, a length of 0. -/
theorem witness_HeaderLowByte :
    (let s := at_ dspRXHDR1 schIDLE decIDLE offer;
      s.params.lenBytes ≤ s.hdrCnt + 2 ∧ s.DspTurn ∧ s.dspState = dspRXHDR1 ∧ s.pins.inErr = false ∧
        s.pins.inValid = true) ∧
    (let s := at_ dspRXHDR1 schIDLE decIDLE { offer with inByte := 0x00 };
      s.params.lenBytes ≤ s.hdrCnt + 2 ∧ s.DspTurn ∧ s.dspState = dspRXHDR1 ∧ s.pins.inErr = false ∧ s.pins.inValid = true) :=
  ⟨⟨by decide, dspTurn_at rfl rfl (by decide) rfl rfl, rfl, rfl, rfl⟩,
    by decide, dspTurn_at rfl rfl (by decide) rfl rfl, rfl, rfl, rfl⟩

/-- The last byte of the longest payload (the largest index), and a byte before the last. -/
theorem witness_PayloadByte :
    (let s := { at_ dspRXPAY schIDLE decIDLE offer with frCnt := 65534, frLen := 65535 };
      s.frCnt < s.params.payloadMax ∧ s.frCnt + 1 = s.frLen ∧ s.DspTurn ∧ s.dspState = dspRXPAY ∧
        s.pins.inErr = false ∧ s.pins.inValid = true) ∧
    (let s := { at_ dspRXPAY schIDLE decIDLE offer with frCnt := 0, frLen := 2 };
      s.frCnt < s.params.payloadMax ∧ s.frCnt + 1 ≠ s.frLen ∧ s.DspTurn) :=
  ⟨⟨by decide, by decide, dspTurn_at rfl rfl (by decide) rfl rfl, rfl, rfl, rfl⟩,
    by decide, by decide, dspTurn_at rfl rfl (by decide) rfl rfl⟩

theorem witness_FrameIsTheReceivedPayload :
    let p := List.replicate 65535 0#8;
    p.length < 256 ^ State.reset.params.lenBytes ∧ p.length ≤ State.reset.params.payloadMax := by
  simp only [List.length_replicate]; decide

/-- The frame 00 01 01 with a stall before its second and its last byte, and the empty frame. -/
theorem witness_FrameIsReassembled :
    (let i0 : Inputs := { offer with inByte := 0x00 };
      let l : List Inputs := [i0, pins, offer, pins];
      let s : State := { at_ dspRXHDR0 schIDLE decIDLE pins with inputs := l ++ offer :: [] };
      s.params.lenBytes = 2 ∧ [0x01#8].length ≤ 65535 ∧ [0x01#8].length ≤ s.params.payloadMax ∧
        s.configured ∧ s.codesLegal = true ∧ s.schState = schIDLE ∧ s.decState = decIDLE ∧ s.dspState = dspRXHDR0 ∧
        s.inputs = l ++ offer :: [] ∧ (∀ j ∈ l ++ [offer], j.feeds = true) ∧ offer.inValid = true ∧
        (l ++ [offer]).filterMap Inputs.offered = frameBytes 2 [0x01] ∧
        exec (.frame [0x01]) s = .next { s with
          rxBuf := [(0, 0x01)], frLen := 1, frCnt := 1, dspState := dspDECODE, accepted := [0x00, 0x01, 0x01] }) ∧
    (let i0 : Inputs := { offer with inByte := 0x00 };
      let s : State := { at_ dspRXHDR0 schIDLE decIDLE pins with inputs := [i0] ++ i0 :: [] };
      s.configured ∧ s.codesLegal = true ∧ (∀ j ∈ [i0] ++ [i0], j.feeds = true) ∧ i0.inValid = true ∧
        ([i0] ++ [i0]).filterMap Inputs.offered = frameBytes 2 [] ∧
        exec (.frame []) s = .next { s with frLen := 0, frCnt := 0, dspState := dspDECODE, accepted := [0x00, 0x00] }) :=
  ⟨⟨rfl, by decide, by decide, configured_default rfl, by decide, rfl, rfl, rfl, rfl, by decide, rfl, by decide, rfl⟩,
    configured_default rfl, by decide, by decide, rfl, by decide, rfl⟩

/-! #### Sending -/

/-- Every value of TX_CNT the rule tells apart: 0, 1, the first payload byte, the last one. -/
theorem witness_ResponseByte :
    ∀ n ∈ [0, 1, 2, 3],
      let s := txAt n pins;
      s.txCnt < s.txLen + s.params.lenBytes ∧ s.txLen ≤ s.params.txMax ∧ s.params.lenBytes = 2 ∧ s.txLen < 65536 ∧
        s.DspTurn ∧ s.dspState = dspTX ∧
        s.pins.outErr = false ∧ s.pins.outReady = true := by
  simp only [List.mem_cons, List.not_mem_nil, or_false, forall_eq_or_imp, forall_eq]
  exact ⟨⟨by decide, by decide, rfl, by decide, dspTurn_at rfl rfl (by decide) rfl rfl, rfl, rfl, rfl⟩,
    ⟨by decide, by decide, rfl, by decide, dspTurn_at rfl rfl (by decide) rfl rfl, rfl, rfl, rfl⟩,
    ⟨by decide, by decide, rfl, by decide, dspTurn_at rfl rfl (by decide) rfl rfl, rfl, rfl, rfl⟩,
    by decide, by decide, rfl, by decide, dspTurn_at rfl rfl (by decide) rfl rfl, rfl, rfl, rfl⟩

/-- A length prefix of three bytes says the length of every response of every lawful codec. -/
theorem legal_other : ({ Params.default with codec := .other, lenBytes := 3 } : Params).legal = true := by
  have h : Config.otherCodec.txMax < 256 ^ 3 := Nat.lt_of_le_of_lt Config.otherCodec.txMax_le (by decide)
  simp [Params.legal, Params.keepsR10, Params.default, Params.txMax]
  exact decide_eq_true h

theorem witness_EncodeBuildsTheResponse :
    (let s := { at_ dspENCODE schIDLE decIDLE pins with resHum := 65535, resTemp := 0x8001 };
      s.respKind = .ok ∧ s.DspTurn ∧ s.dspState = dspENCODE) ∧
    (let s := { at_ dspENCODE schIDLE decIDLE pins with respKind := .timeout };
      s.respKind = .timeout ∧ s.DspTurn ∧ s.dspState = dspENCODE) ∧
    (let s := { at_ dspENCODE schIDLE decIDLE pins with params := { Params.default with codec := .other, lenBytes := 3 } };
      s.params.codec = .other ∧ s.DspTurn ∧ s.dspState = dspENCODE) :=
  ⟨⟨rfl, dspTurn_at rfl rfl (by decide) rfl rfl, rfl⟩, ⟨rfl, dspTurn_at rfl rfl (by decide) rfl rfl, rfl⟩,
    rfl, dspTurn_of legal_other rfl (by decide) rfl rfl, rfl⟩

theorem witness_ResponseMessagesAreOffered :
    let s := { State.reset with resHum := 65535#16, resTemp := 0x8001#16 };
    s.params = Params.default ∧ s.respKind = .ok ∧ s.resHum = 65535#16 ∧ s.resTemp = 0x8001#16 := ⟨rfl, rfl, rfl, rfl⟩

/-- The frame of a two-byte payload, with a stall before its last byte. -/
theorem witness_ResponseFrameIsEmitted :
    let l : List Inputs := [pins, pins, pins, { pins with outReady := false }];
    let s : State := { txAt 0 pins with inputs := l ++ pins :: [] };
    let q : List Byte := [0x83, 0x74];
    s.configured ∧ s.codesLegal = true ∧ s.schState = schIDLE ∧ s.decState = decIDLE ∧ s.dspState = dspTX ∧
      s.txCnt = 0 ∧ q.length = s.txLen ∧ q.length ≤ s.params.txMax ∧
      (∀ k (h : k < q.length), s.txBuf.read k = some q[k]) ∧ (∀ j ∈ l ++ [pins], j.drains = true) ∧
      pins.outReady = true ∧ ((l ++ [pins]).filter Inputs.outReady).length = q.length + s.params.lenBytes :=
  ⟨configured_default rfl, by decide, rfl, rfl, rfl, rfl, rfl, by decide, by decide, by decide, rfl, by decide⟩

/-! #### The command -/

theorem witness_ReadCommandStartsTheScheduler :
    let s := received read2000;
    read2000.length = s.frLen ∧ read2000.length ≤ s.params.payloadMax ∧
      (∀ k (h : k < read2000.length), s.rxBuf.read k = some read2000[k]) ∧
      codecDecode s.params read2000 = .read 2000 ∧ s.DspTurn ∧ s.dspState = dspDECODE :=
  ⟨rfl, by decide, by decide, by decide, dspTurn_at rfl rfl (by decide) rfl rfl, rfl⟩

/-- One payload for each cause: empty, a 1-tuple, the atom `Read`, a missing second element. -/
theorem witness_BadPayloadTakesTheProtocolFault :
    ∀ x ∈ [(([] : List Byte), ProtocolFault.version), ([0x83, 0x68, 0x01], .arity),
        ([0x83, 0x68, 0x02, 0x64, 0x00, 0x04, 0x52, 0x65, 0x61, 0x64, 0x61, 0x00], .atom),
        ([0x83, 0x68, 0x02, 0x64, 0x00, 0x04, 0x72, 0x65, 0x61, 0x64], .field)],
      x.1.length = (received x.1).frLen ∧ x.1.length ≤ (received x.1).params.payloadMax ∧
        (∀ k (h : k < x.1.length), (received x.1).rxBuf.read k = some x.1[k]) ∧
        codecDecode (received x.1).params x.1 = .fault x.2 := by decide

theorem witness_BadPayloadTakesTheProtocolFault_turn : (received []).DspTurn ∧ (received []).dspState = dspDECODE :=
  ⟨dspTurn_at rfl rfl (by decide) rfl rfl, rfl⟩

/-- A stale byte just past the payload. -/
theorem witness_StaleBytesAreNotRead :
    let s := received read2000;
    let m := s.rxBuf.write 15 0xAA;
    s.DspTurn ∧ s.dspState = dspDECODE ∧ (∀ a, a < s.frLen → m.read a = s.rxBuf.read a) ∧
      step s = .next (s.startRead 2000).advance :=
  ⟨dspTurn_at rfl rfl (by decide) rfl rfl, rfl, by decide, rfl⟩

theorem witness_ReadMessageStartsTheScheduler :
    let s := received (readBytes 0x7FFFFFFF#32);
    s.params = Params.default ∧ (0x7FFFFFFF#32).toNat ≤ 2147483647 ∧ s.frLen = (readBytes 0x7FFFFFFF#32).length ∧
      (∀ k (h : k < (readBytes 0x7FFFFFFF#32).length), s.rxBuf.read k = some (readBytes 0x7FFFFFFF#32)[k]) := by decide

/-- Both forms of the header, the four of the atom, the largest byte and the largest timeout. -/
theorem witness_ReadRequestDecodes :
    Params.default.codec = .etf ∧ (tupleForms Params.default.version).length = 2 ∧ readAtomForms.length = 4 ∧
    [0x83#8, 105#8, 0#8, 0#8, 0#8, 2#8] ∈ tupleForms Params.default.version ∧
    [119#8, 4#8, 0x72#8, 0x65#8, 0x61#8, 0x64#8] ∈ readAtomForms ∧ (255#8 : Byte).toNat ≤ Params.default.timeoutMax ∧
    (0x7FFFFFFF#32).toNat ≤ 2147483647 ∧ (0x7FFFFFFF#32).toNat ≤ Params.default.timeoutMax := by decide

theorem witness_DecodedTimeoutIsBounded :
    codecDecode Params.default (readBytes 0x7FFFFFFF#32) = .read 0x7FFFFFFF := by decide

/-- The forms are there, and each clause at a neighbour of the accepted value. -/
theorem witness_FirstFailingStepGivesTheCause :
    Params.default.codec = .etf ∧ [0x83#8, 104#8, 2#8] ∈ tupleForms Params.default.version ∧
    [100#8, 0#8, 4#8, 0x72#8, 0x65#8, 0x61#8, 0x64#8] ∈ readAtomForms ∧
    0x82#8 ≠ Params.default.version ∧ (103#8 : Byte) ≠ 104#8 ∧ (106#8 : Byte) ≠ 105#8 ∧ ([0, 0, 0] : List Byte).length < 4 ∧
    (3#8 : Byte) ≠ 2#8 ∧ (be32 0 0 0 3).toNat ≠ 2 ∧
    [0x72#8, 0x65#8, 0x61#8].length < (be16 0 4).toNat ∧ [0x72#8, 0x65#8, 0x61#8].length < (4#8).toNat ∧
    ([0x52#8, 0x65#8, 0x61#8, 0x64#8].length = (be16 0 4).toNat ∧ [0x52#8, 0x65#8, 0x61#8, 0x64#8] ≠ nameRead) ∧
    (([] : List Byte).length = (0#8).toNat ∧ [] ≠ nameRead) ∧ 128 ≤ (0x80#8).toNat := by decide

theorem witness_EncodeIsInjective :
    (Response.ok 65535 (-32767)).inRange ∧ (Response.ok 0 32767).inRange ∧ Response.timeout.inRange := by
  simp [Response.inRange]

/-! #### The scheduler -/

/-- START at the last tick TIME_US counts, with the longest timeout. -/
def startLate : State :=
  { at_ dspEXEC schSTART decIDLE pins with timeUs := 2 ^ 64 - 1, timeoutMs := 2147483647 }

/-- The default at its boundary; 31 bits of time at the last deadline that fits and at the first that does not. -/
theorem witness_StartTakesTheDeadline :
    (startLate.params = Params.default ∧ startLate.Counters ∧ startLate.SchTurn ∧ startLate.schState = schSTART) ∧
    (let s := { startLate with params := { Params.default with timeW := 31, timeoutMax := 2 ^ 31 - 1 }, timeUs := 999 };
      s.timeUs / 1000 + s.timeoutMs < 2 ^ s.params.timeW) ∧
    (let s := { startLate with params := { Params.default with timeW := 31, timeoutMax := 2 ^ 31 - 1 }, timeUs := 1000 };
      ¬ s.timeUs / 1000 + s.timeoutMs < 2 ^ s.params.timeW) :=
  ⟨⟨rfl, by constructor <;> decide, schTurn_at rfl rfl (by decide) rfl rfl, rfl⟩, by decide, by decide⟩

/-- Both clauses: one millisecond short of the floor, and at it. -/
theorem witness_SpacingFloorThenAttempt :
    (let s := { at_ dspEXEC schSPACE decIDLE pins with timeUs := 2021999, lastReadValid := true, lastReadMs := 22 };
      s.SchTurn ∧ s.schState = schSPACE ∧
        (s.lastReadValid = true ∧ s.nowMs < s.lastReadMs + s.params.minSpacing)) ∧
    (let s := { at_ dspEXEC schSPACE decIDLE pins with timeUs := 2022000, lastReadValid := true, lastReadMs := 22 };
      s.SchTurn ∧ s.schState = schSPACE ∧
        ¬ (s.lastReadValid = true ∧ s.nowMs < s.lastReadMs + s.params.minSpacing)) :=
  ⟨⟨schTurn_at rfl rfl (by decide) rfl rfl, rfl, by decide⟩, schTurn_at rfl rfl (by decide) rfl rfl, rfl, by decide⟩

/-- The three clauses: valid at the deadline, invalid at the deadline, invalid one tick before it. -/
theorem witness_CheckAnswersOrRetries :
    (let s := { at_ dspEXEC schCHECK decIDLE pins with timeUs := 2000000, deadlineMs := 2000, resValid := true };
      s.SchTurn ∧ s.schState = schCHECK ∧ s.resValid = true ∧ s.deadlineMs ≤ s.nowMs) ∧
    (let s := { at_ dspEXEC schCHECK decIDLE pins with timeUs := 2000000, deadlineMs := 2000 };
      s.SchTurn ∧ s.schState = schCHECK ∧ ¬ s.resValid = true ∧ s.deadlineMs ≤ s.nowMs) ∧
    (let s := { at_ dspEXEC schCHECK decIDLE pins with timeUs := 1999999, deadlineMs := 2000 };
      s.SchTurn ∧ s.schState = schCHECK ∧ ¬ s.resValid = true ∧ ¬ s.deadlineMs ≤ s.nowMs) :=
  ⟨⟨schTurn_at rfl rfl (by decide) rfl rfl, rfl, rfl, by decide⟩,
    ⟨schTurn_at rfl rfl (by decide) rfl rfl, rfl, by decide, by decide⟩,
    schTurn_at rfl rfl (by decide) rfl rfl, rfl, by decide, by decide⟩

/-! #### The decoder -/

/-- Both cases of both phases: the last tick and the one before it. -/
theorem witness_WakePhasesCountTheirTicks :
    (∀ n ∈ [17998, 17999],
      let s := { at_ dspEXEC schATTEMPT decWAKELOW pins with wakeCnt := n };
      s.DecTurn ∧ s.decState = decWAKELOW) ∧
    (∀ n ∈ [38, 39],
      let s := { at_ dspEXEC schATTEMPT decWAKEHIGH pins with wakeCnt := n };
      s.DecTurn ∧ s.decState = decWAKEHIGH) :=
  ⟨fun _ _ => ⟨decTurn_at rfl rfl rfl rfl rfl, rfl⟩, fun _ _ => ⟨decTurn_at rfl rfl rfl rfl rfl, rfl⟩⟩

theorem witness_UnchangedSampleCounts :
    let s := { edgeAt pins with pulseCnt := 253 };
    s.configured ∧ s.pulseCnt.toNat + 1 < s.params.edgeCap ∧ s.DecTurn ∧ s.decState = decEDGE ∧
      s.pins.gpioIn = s.lastLevel :=
  ⟨configured_default rfl, by decide, decTurn_at rfl rfl (by decide) rfl rfl, rfl, rfl⟩

theorem witness_CapConcludes :
    let s := { edgeAt pins with pulseCnt := 254 };
    s.configured ∧ s.pulseCnt.toNat + 1 = s.params.edgeCap ∧ s.DecTurn ∧ s.decState = decEDGE ∧
      s.pins.gpioIn = s.lastLevel :=
  ⟨configured_default rfl, by decide, decTurn_at rfl rfl (by decide) rfl rfl, rfl, rfl⟩

/-- The three clauses: 39 bits, 40 bits with a wrong checksum, 40 bits with the right one. -/
theorem witness_ConcludeRecordsTheResult :
    (let s := { State.reset with bitCnt := 39 }; s.bitCnt < s.params.numBits) ∧
    (let s := { State.reset with bitCnt := 40, raw := [0x02, 0x26, 0x00, 0xE7, 0x10] };
      s.params.numBits ≤ s.bitCnt ∧ checksumOk ⟨0x02, 0x26, 0x00, 0xE7, 0x10⟩ = false ∧ s.conclude.resValid = false) ∧
    (let s := { State.reset with bitCnt := 40, raw := [0x02, 0x26, 0x00, 0xE7, 0x0F] };
      s.params.numBits ≤ s.bitCnt ∧ checksumOk ⟨0x02, 0x26, 0x00, 0xE7, 0x0F⟩ = true) := by decide

/-- The first qualifying edge, and the 40th bit on the MAX_EDGES-th edge. -/
theorem witness_QualifyingEdgeTakesABit :
    (let s := { edgeAt { pins with gpioIn := false } with edgeCnt := 4 };
      s.bitCnt < s.params.numBits ∧ s.params.numBits = 8 * s.params.rawBytes ∧ s.raw.length = s.params.rawBytes ∧
        s.edgeCnt + 1 ≠ s.params.maxEdges ∧ s.DecTurn ∧ s.decState = decEDGE ∧ s.lastLevel = true ∧
        s.pins.gpioIn = false ∧ s.params.preambleEdges ≤ s.edgeCnt) ∧
    (let s := { edgeAt { pins with gpioIn := false } with edgeCnt := 84, bitCnt := 39 };
      s.bitCnt < s.params.numBits ∧ s.params.numBits = 8 * s.params.rawBytes ∧ s.raw.length = s.params.rawBytes ∧
        s.edgeCnt + 1 = s.params.maxEdges ∧ s.DecTurn ∧ s.decState = decEDGE ∧ s.lastLevel = true ∧
        s.pins.gpioIn = false ∧ s.params.preambleEdges ≤ s.edgeCnt) :=
  ⟨⟨by decide, rfl, rfl, by decide, decTurn_at rfl rfl (by decide) rfl rfl, rfl, rfl, rfl, by decide⟩,
    by decide, rfl, rfl, by decide, decTurn_at rfl rfl (by decide) rfl rfl, rfl, rfl, rfl, by decide⟩

/-- A preamble edge, a rising edge, and an edge after the last bit that is the MAX_EDGES-th. -/
theorem witness_OtherEdgesOnlyCount :
    (let s := { edgeAt { pins with gpioIn := false } with edgeCnt := 3 };
      s.DecTurn ∧ decode s.decWord = .ok .decEdgePre ∧ s.pins.gpioIn = false) ∧
    (let s := { edgeAt pins with edgeCnt := 5, lastLevel := false };
      s.DecTurn ∧ decode s.decWord = .ok .decEdgeRise) ∧
    (let s := { edgeAt { pins with gpioIn := false } with edgeCnt := 84, bitCnt := 40 };
      s.DecTurn ∧ decode s.decWord = .ok .decEdgeExcess) :=
  ⟨⟨decTurn_at rfl rfl (by decide) rfl rfl, by decide, rfl⟩, ⟨decTurn_at rfl rfl (by decide) rfl rfl, by decide⟩,
    decTurn_at rfl rfl (by decide) rfl rfl, by decide⟩

/-- A phase that ends by the cap and one that ends by its last edge, under small parameters. -/
theorem witness_EdgePhaseIsTheSamplingLoop :
    let p : Params := { Params.default with edgeCap := 3, maxEdges := 3, preambleEdges := 0 };
    let lo : Inputs := { pins with gpioIn := false };
    (let s : State := { edgeAt pins with params := p, inputs := [pins, lo, lo, lo, lo] ++ [] };
      s.configured ∧ s.codesLegal = true ∧ (∀ i ∈ [pins, lo, lo, lo, lo], i.rst = false) ∧
        edgePhase s.params ([pins, lo, lo, lo, lo].map Inputs.gpioIn) = some ([⟨false, 1⟩], .cap, [])) ∧
    (let s : State := { edgeAt pins with params := p, inputs := [lo, pins, lo] ++ [] };
      s.configured ∧ s.codesLegal = true ∧ (∀ i ∈ [lo, pins, lo], i.rst = false) ∧
        edgePhase s.params ([lo, pins, lo].map Inputs.gpioIn) =
          some ([⟨false, 0⟩, ⟨true, 0⟩, ⟨false, 0⟩], .last, [])) := by
  refine ⟨⟨?_, by decide, by decide, by decide⟩, ?_, by decide, by decide, by decide⟩ <;>
    (unfold State.configured; decide)

/-! #### The invariants: a safe state of every phase, with its next state -/

theorem control_at {s : State} (hp : s.params = Params.default) (hl : s.codesLegal = true)
    (h1 : s.dspState = dspEXEC ↔ s.schState ≠ schIDLE) (h2 : s.schState = schATTEMPT ↔ s.decState ≠ decIDLE) : s.Control :=
  ⟨configured_default hp, hl, h1, h2⟩

/-- A payload byte to come, one already received. -/
def safeRx : State := { at_ dspRXPAY schIDLE decIDLE offer with frLen := 3, frCnt := 1, rxBuf := [(0, 0x83)] }

/-- The last edge of an attempt whose 40 bits are the sample of VAL-1. -/
def safeEdge : State :=
  { edgeAt { pins with gpioIn := false } with
    timeUs := 21418, edgeCnt := 84, bitCnt := 40, raw := [0x02, 0x26, 0x00, 0xE7, 0x0F], pulseCnt := 10 }

/-- A valid result waiting for CHECK. -/
def safeCheck : State :=
  { at_ dspEXEC schCHECK decIDLE pins with
    timeUs := 21419, lastReadMs := 21, lastReadValid := true, edgeCnt := 85, bitCnt := 40,
    raw := [0x02, 0x26, 0x00, 0xE7, 0x0F], resValid := true, resHum := 550, resTemp := 231 }

/-- A response byte to come. -/
def safeTx : State := txAt 2 pins

/-- A fault taken. -/
def safeHalt : State := { at_ dspHALT schIDLE decIDLE pins with exitCode := 1, faultCause := 6 }

theorem safeRx_safe : safeRx.Safe where
  control := control_at rfl (by decide) (by decide) (by decide)
  counters := by constructor <;> decide
  buffers := by constructor <;> decide
  readings := ⟨fun h => absurd h (by decide), fun h => absurd h (by decide), by decide⟩
  exitStatus := by constructor <;> decide

theorem safeEdge_safe : safeEdge.Safe where
  control := control_at rfl (by decide) (by decide) (by decide)
  counters := by constructor <;> decide
  buffers := by constructor <;> decide
  readings := ⟨fun h => absurd h (by decide), fun h => absurd h (by decide), by decide⟩
  exitStatus := by constructor <;> decide

theorem safeCheck_safe : safeCheck.Safe where
  control := control_at rfl (by decide) (by decide) (by decide)
  counters := by constructor <;> decide
  buffers := by constructor <;> decide
  readings := ⟨fun _ _ => by constructor <;> decide, fun h => absurd h (by decide), by decide⟩
  exitStatus := by constructor <;> decide

theorem safeTx_safe : safeTx.Safe where
  control := control_at rfl (by decide) (by decide) (by decide)
  counters := by constructor <;> decide
  buffers := by constructor <;> decide
  readings := ⟨fun h => absurd h (by decide), fun h => absurd h (by decide), by decide⟩
  exitStatus := by constructor <;> decide

theorem safeHalt_safe : safeHalt.Safe where
  control := control_at rfl (by decide) (by decide) (by decide)
  counters := by constructor <;> decide
  buffers := by constructor <;> decide
  readings := ⟨fun h => absurd h (by decide), fun h => absurd h (by decide), by decide⟩
  exitStatus := by constructor <;> decide

theorem safeRx_step : ∃ t, step safeRx = .next t ∧ t.dspState = dspRXPAY := ⟨_, rfl, by decide⟩
theorem safeEdge_step : ∃ t, step safeEdge = .next t ∧ t.resHum = 550 ∧ t.schState = schCHECK := ⟨_, rfl, by decide, by decide⟩
theorem safeCheck_step : ∃ t, step safeCheck = .next t ∧ t.dspState = dspENCODE := ⟨_, rfl, by decide⟩
theorem safeTx_step : ∃ t, step safeTx = .next t ∧ t.emitted = [0x83] := ⟨_, rfl, by decide⟩
theorem safeHalt_step : ∃ t, step safeHalt = .next t ∧ t.dspState = dspHALT := ⟨_, rfl, rfl⟩

theorem witness_AttemptsConclude :
    (let s := at_ dspEXEC schATTEMPT decWAKELOW pins;
      s.decState = decWAKELOW ∧ s.wakeCnt = 0) ∧
    safeEdge.Control ∧ safeEdge.Counters ∧ safeEdge.decState ≠ decIDLE ∧ safeEdge.pins.rst = false ∧
    ∃ t, step safeEdge = .next t :=
  ⟨⟨rfl, rfl⟩, safeEdge_safe.control, safeEdge_safe.counters, by decide, rfl, _, rfl⟩

theorem witness_ControlIsKept : safeCheck.Control ∧ ∃ t, step safeCheck = .next t := ⟨safeCheck_safe.control, _, rfl⟩

/-- The state of test_R66_conflicts_with_R211 meets every invariant of a reachable one. -/
theorem after256_safe : after256.Safe where
  control := control_at rfl (by decide) (by decide) (by decide)
  counters := by constructor <;> decide
  buffers := by constructor <;> decide
  readings := ⟨fun h => absurd h (by decide), fun h => absurd h (by decide), by decide⟩
  exitStatus := by constructor <;> decide

/-- RX_HDR1 after the prefix byte `hi`, the frame before having had n bytes. -/
def insideAfter (n hi : Nat) : State :=
  { at_ dspRXHDR1 schIDLE decIDLE offer with frLen := hi * 256 + n % 256, frCnt := n }

/-- Outside the prefix; and inside it, after a frame of 255 bytes (the last with FR_CNT ≤ FR_LEN whatever comes) and of 256. -/
theorem witness_CountersStayInRange :
    (safeEdge.Control ∧ safeEdge.Counters ∧ safeEdge.insidePrefix = false ∧ ∃ t, step safeEdge = .next t) ∧
    ((insideAfter 255 0).Counters ∧ (insideAfter 255 0).params.lenBytes = 2 ∧ (insideAfter 255 0).frCnt < 256) ∧
    ((insideAfter 256 0).Control ∧ (insideAfter 256 0).Counters ∧ (insideAfter 256 0).frLen < (insideAfter 256 0).frCnt ∧
      ∃ t, step (insideAfter 256 0) = .next t) :=
  ⟨⟨safeEdge_safe.control, safeEdge_safe.counters, by decide, _, rfl⟩, ⟨by constructor <;> decide, rfl, by decide⟩,
    control_at rfl (by decide) (by decide) (by decide), by constructor <;> decide, by decide, _, rfl⟩

theorem witness_BuffersStayWritten :
    (safeRx.Control ∧ safeRx.Counters ∧ safeRx.Buffers ∧ ∃ t, step safeRx = .next t) ∧
    (safeTx.Control ∧ safeTx.Counters ∧ safeTx.Buffers ∧ ∃ t, step safeTx = .next t) :=
  ⟨⟨safeRx_safe.control, safeRx_safe.counters, safeRx_safe.buffers, _, rfl⟩,
    safeTx_safe.control, safeTx_safe.counters, safeTx_safe.buffers, _, rfl⟩

theorem witness_ReadingsStayChecked :
    (safeEdge.Control ∧ safeEdge.Counters ∧ safeEdge.Readings ∧ ∃ t, step safeEdge = .next t) ∧
    (safeCheck.Control ∧ safeCheck.Counters ∧ safeCheck.Readings ∧ ∃ t, step safeCheck = .next t) :=
  ⟨⟨safeEdge_safe.control, safeEdge_safe.counters, safeEdge_safe.readings, _, rfl⟩,
    safeCheck_safe.control, safeCheck_safe.counters, safeCheck_safe.readings, _, rfl⟩

theorem witness_ExitStatusIsKept :
    (safeHalt.Control ∧ safeHalt.ExitStatus ∧ ∃ t, step safeHalt = .next t) ∧
    (safeRx.Control ∧ safeRx.ExitStatus ∧ ∃ t, step safeRx = .next t) :=
  ⟨⟨safeHalt_safe.control, safeHalt_safe.exitStatus, _, rfl⟩, safeRx_safe.control, safeRx_safe.exitStatus, _, rfl⟩

/-- TIME_US one short of its last value, with LAST_READ_MS = now_ms. -/
theorem witness_LastReadNeverDecreases :
    let s := { safeEdge with timeUs := 2 ^ 64 - 2, lastReadMs := 18446744073709551 };
    s.ClockOrder ∧ s.timeUs + 1 < 2 ^ s.params.timeW ∧ s.pins.rst = false ∧ ∃ t, step s = .next t :=
  ⟨by unfold State.ClockOrder; decide, by decide, rfl, _, rfl⟩

/-- Every phase under the default parameters, whose RX_BUF has the room, and a reset under other legal ones. -/
theorem witness_SafeStatesNeverStop :
    ({ Params.default with lenBytes := 3, rawBytes := 4, numBits := 32, timeW := 32, payloadMax := 2 ^ 24 - 1 } :
      Params).legal = true ∧
    Params.default.roomy ∧ (∀ s ∈ [safeRx, safeEdge, safeCheck, safeTx, safeHalt], s.params = Params.default) ∧
    safeRx.Safe ∧ safeEdge.Safe ∧ safeCheck.Safe ∧ safeTx.Safe ∧ safeHalt.Safe :=
  ⟨by decide, by unfold Params.roomy; decide, by decide, safeRx_safe, safeEdge_safe, safeCheck_safe, safeTx_safe, safeHalt_safe⟩

/-- Each condition: TX and not TX, the line driven low, driven high and released, HALT and not HALT. -/
theorem witness_OutputsFollowTheState :
    (safeTx.dspState = dspTX ∧ safeTx.outByte = .ok 0x83) ∧
    ((at_ dspEXEC schATTEMPT decWAKELOW pins).gpioOe = true ∧ (at_ dspEXEC schATTEMPT decWAKEHIGH pins).gpioOut = true) ∧
    safeEdge.decState = decEDGE ∧ (safeRx.Control ∧ safeRx.dspState ≠ dspEXEC) ∧
    (safeHalt.Control ∧ safeHalt.dspState = dspHALT) :=
  ⟨by decide, by decide, rfl, ⟨safeRx_safe.control, by decide⟩, safeHalt_safe.control, rfl⟩

theorem witness_HaltIsTerminal :
    let s := { safeHalt with inputs := [{ offer with inErr := true, inEof := true, initFail := true, outErr := true }, pins] };
    s.Control ∧ s.dspState = dspHALT ∧ 2 ≤ s.inputs.length ∧ ∀ i ∈ s.inputs.take 2, i.rst = false :=
  ⟨control_at rfl (by decide) (by decide) (by decide), rfl, by decide, by decide⟩

theorem witness_TransfersNeedTheHandshake :
    (∃ t, step safeRx = .next t ∧ t.accepted = safeRx.accepted ++ [0x01]) ∧
    (∃ t, step safeTx = .next t ∧ t.emitted = safeTx.emitted ++ [0x83]) := ⟨⟨_, rfl, rfl⟩, _, rfl, rfl⟩

theorem witness_ReadingChangesOnlyWhenValid :
    ∃ t, step safeEdge = .next t ∧ safeEdge.pins.rst = false ∧ t.resHum ≠ safeEdge.resHum ∧ t.resTemp ≠ safeEdge.resTemp :=
  ⟨_, rfl, rfl, by decide, by decide⟩

/-- Inputs that differ in every port the state does not read: under a reset, in INIT, receiving (an error, a byte, none), in DECODE,
WAKE_LOW, EDGE and TX, and halted. -/
theorem witness_UnreadInputsDoNotMatter :
    let z : Inputs := ⟨false, false, false, false, 0x00, false, false, false, false⟩;
    let o : Inputs := ⟨false, true, true, true, 0xFF, true, true, true, true⟩;
    safeEdge.ReadsSame { z with rst := true } { o with rst := true } ∧
    (at_ dspINIT schIDLE decIDLE pins).ReadsSame z { o with initFail := false } ∧
    safeRx.ReadsSame { z with inErr := true } o ∧
    safeRx.ReadsSame { z with inValid := true, inByte := 0xFF } { o with inErr := false } ∧
    safeRx.ReadsSame { z with inEof := true } { o with inErr := false, inValid := false } ∧
    (received read2000).ReadsSame z o ∧ (at_ dspEXEC schATTEMPT decWAKELOW pins).ReadsSame z o ∧
    safeEdge.ReadsSame z { o with gpioIn := false } ∧
    safeTx.ReadsSame { z with outErr := true } { o with outReady := false } ∧
    safeTx.ReadsSame { z with outReady := true } { o with outErr := false } ∧
    safeHalt.ReadsSame z o := by
  refine ⟨?_, ?_, ?_, ?_, ?_, ?_, ?_, ?_, ?_, ?_, ?_⟩ <;> constructor <;> decide

theorem witness_ParametersAreFixed : ∃ t, step safeRx = .next t := ⟨_, rfl⟩

end Sys2Proof.Tests
end

section
/-!
SUPPORT. What one tick can write when control is with one sequencer at a time (10_state.md R37): the step is taken apart here once,
and each invariant of Safety.lean is then a case analysis over `Moves`.
-/

namespace Sys2Proof.Machine

/-! ### The state codes -/

theorem codesLegal_iff {s : State} : s.codesLegal = true ↔
    s.dspState.toNat ≤ 8 ∧ s.schState.toNat ≤ 4 ∧ s.resCause.toNat ≤ 2 ∧ s.faultCause.toNat ≤ 7 := by
  simp [State.codesLegal, and_assoc]

theorem dspState_cases {d : BitVec 4} (h : d.toNat ≤ 8) :
    d = dspINIT ∨ d = dspRXHDR0 ∨ d = dspRXHDR1 ∨ d = dspRXPAY ∨ d = dspDECODE ∨ d = dspEXEC ∨ d = dspENCODE ∨ d = dspTX ∨
      d = dspHALT := by
  revert d; decide

theorem schState_cases {c : BitVec 3} (h : c.toNat ≤ 4) :
    c = schIDLE ∨ c = schSTART ∨ c = schSPACE ∨ c = schATTEMPT ∨ c = schCHECK := by
  revert c; decide

theorem decState_cases (e : BitVec 2) : e = decIDLE ∨ e = decWAKELOW ∨ e = decWAKEHIGH ∨ e = decEDGE := by
  revert e; decide

theorem inReady_iff {s : State} :
    s.inReady = true ↔ s.dspState = dspRXHDR0 ∨ s.dspState = dspRXHDR1 ∨ s.dspState = dspRXPAY := by
  simp [State.inReady]

theorem dspState_ne_exec_of_inReady {s : State} (h : s.inReady = true) : s.dspState ≠ dspEXEC := by
  rcases inReady_iff.1 h with e | e | e <;> rw [e] <;> decide

/-! ### The length header being received -/

/-- FR_LEN after FR.RX_HDR0 (43_framer.md R211). -/
def State.highPrefix (s : State) : Nat :=
  s.pins.inByte.toNat * 256 ^ (s.params.lenBytes - 1) + s.frLen % 256 ^ (s.params.lenBytes - 1)

/-- The length header bytes to come after the one FR.RX_HDR1 takes. -/
def State.prefixLeftAfter (s : State) : Nat := s.params.lenBytes - 2 - s.hdrCnt

/-- FR_LEN after FR.RX_HDR1 (R212). -/
def State.nextPrefix (s : State) : Nat := setByte s.frLen s.prefixLeftAfter s.pins.inByte

/-- A length header byte taken with more to come: FR_LEN holds n, of which k bytes after the first have arrived. -/
def State.keepPrefix (s : State) (n k : Nat) : State :=
  { s.acceptByte with frLen := n, hdrCnt := k, dspState := dspRXHDR1 }

theorem execFrRxHdr0_eq (s : State) : execFrRxHdr0 s =
    .next (if s.params.lenBytes ≤ 1 then s.acceptByte.startPayload s.highPrefix
      else s.keepPrefix s.highPrefix 0) := rfl

theorem execFrRxHdr1_eq {s : State} (hdsp : s.dspState = dspRXHDR1) : execFrRxHdr1 s =
    .next (if s.prefixLeftAfter = 0 then s.acceptByte.startPayload s.nextPrefix
      else s.keepPrefix s.nextPrefix (s.hdrCnt + 1)) := by
  rw [State.keepPrefix, ← hdsp]; rfl

theorem highPrefix_mod (s : State) :
    s.highPrefix % 256 ^ (s.params.lenBytes - 1) = s.frLen % 256 ^ (s.params.lenBytes - 1) := by
  simp [State.highPrefix]

theorem highPrefix_lt {s : State} (h : 0 < s.params.lenBytes) : s.highPrefix < 256 ^ s.params.lenBytes := by
  obtain ⟨k, hk⟩ : ∃ k, s.params.lenBytes = k + 1 := ⟨s.params.lenBytes - 1, by omega⟩
  have hb := s.pins.inByte.isLt
  have hm : s.frLen % 256 ^ k < 256 ^ k := Nat.mod_lt _ (by positivity)
  rw [State.highPrefix, hk, Nat.add_sub_cancel]
  calc s.pins.inByte.toNat * 256 ^ k + s.frLen % 256 ^ k < (s.pins.inByte.toNat + 1) * 256 ^ k := by
        rw [Nat.add_one_mul]; omega
    _ ≤ 256 ^ (k + 1) := by rw [Nat.pow_succ']; exact Nat.mul_le_mul_right _ (by omega)

theorem nextPrefix_lt {s : State} (h : 0 < s.params.lenBytes) (hl : s.frLen < 256 ^ s.params.lenBytes) :
    s.nextPrefix < 256 ^ s.params.lenBytes :=
  setByte_lt _ (by unfold State.prefixLeftAfter; omega) hl

/-! ### The codec's results -/

/-- A command's timeout is at most TIMEOUT_MAX (44_command_dispatch.md R235). -/
theorem codecDecode_read_le {p : Params} {bytes : List Byte} {t : Nat} (h : codecDecode p bytes = .read t) :
    t ≤ p.timeoutMax := by
  have hbound : ∀ r, boundTimeout p r = .read t → t ≤ p.timeoutMax := by
    intro r hr
    cases r with
    | read u =>
      simp only [boundTimeout] at hr
      split at hr
      · cases hr; assumption
      · cases hr
    | fault c => cases hr
  unfold codecDecode at h
  split at h <;> exact hbound _ h

theorem codecResult_ok {s : State} {r : Decoded} (h : s.codecResult = .ok r) : ∃ p, codecDecode s.params p = r := by
  unfold State.codecResult at h
  split at h
  · cases h; exact ⟨_, rfl⟩
  · cases h

theorem etfAtom_length_le (tag : AtomOutTag) (name : List Byte) : (etfAtom tag name).length ≤ name.length + 3 := by
  cases tag <;> simp [etfAtom]

theorem etfInt_length_le (x : Int) : (etfInt x).length ≤ 5 := by
  unfold etfInt; split <;> simp [bytes32]

/-- No response is longer than TX_BUF, under the default codec and every lawful one (R236, R258). -/
theorem codecEncode_length_le (p : Params) (r : Response) : (codecEncode p r).length ≤ p.txMax := by
  unfold codecEncode Params.txMax
  cases p.codec with
  | other => exact Config.otherCodec.encode_fits r
  | etf =>
    cases r with
    | ok h v =>
      have ha := etfAtom_length_le p.atomOutTag nameOk
      have hh := etfInt_length_le h
      have hv := etfInt_length_le v
      simp [etfEncode, nameOk, Config.etfTxMax] at ha ⊢
      omega
    | timeout =>
      have ha := etfAtom_length_le p.atomOutTag nameTimeout
      simp [etfEncode, nameTimeout, Config.etfTxMax] at ha ⊢
      omega

/-! ### The operations' writes -/

/-- A payload byte taken into RX_BUF, which is then m (43_framer.md R213). -/
def State.putPayloadByte (s : State) (m : Memory) : State :=
  { s.acceptByte with
    rxBuf := m, frCnt := s.frCnt + 1, dspState := if s.frCnt + 1 = s.frLen then dspDECODE else s.dspState }

/-- The response placed in TX_BUF, which is then m (44_command_dispatch.md R252). -/
def State.putResponse (s : State) (m : Memory) : State :=
  { s with txBuf := m, txLen := (codecEncode s.params s.response).length, txCnt := 0, dspState := dspTX }

/-- A response byte handed over (43_framer.md R219). -/
def State.emitByte (s : State) (b : Byte) : State :=
  { s with
    emitted := s.emitted ++ [b], txCnt := s.txCnt + 1,
    dspState := if s.txCnt + 1 = s.txLen + s.params.lenBytes then dspRXHDR0 else s.dspState }

theorem putPayloadByte_dspState {s : State} (hdsp : s.dspState = dspRXPAY) (m : Memory) :
    (s.putPayloadByte m).dspState = if s.frCnt + 1 = s.frLen then dspDECODE else dspRXPAY := by
  rw [← hdsp]; rfl

theorem emitByte_dspState {s : State} (hdsp : s.dspState = dspTX) (b : Byte) :
    (s.emitByte b).dspState = if s.txCnt + 1 = s.txLen + s.params.lenBytes then dspRXHDR0 else dspTX := by
  rw [← hdsp]; rfl

/-- `u` is what the operation in control makes of `s`, TIME_US and the tick's inputs apart: one constructor per operation that
writes, under the state code and the condition of R104 that select it, and `hold` for the operations that write nothing. -/
inductive Moves (s : State) : State → Prop where
  | hold (hdec : s.decState = decIDLE) : Moves s s
  | initFail (hdsp : s.dspState = dspINIT) : Moves s (s.raiseFault .init)
  | initOk (hdsp : s.dspState = dspINIT) : Moves s { s with dspState := dspRXHDR0 }
  | rxErr (hrx : s.inReady = true) : Moves s (s.raiseFault .ioRx)
  | rxEof (hrx : s.inReady = true) : Moves s s.stopClean
  | onlyPrefixByte (hdsp : s.dspState = dspRXHDR0) : Moves s (s.acceptByte.startPayload s.highPrefix)
  | firstPrefixByte (hdsp : s.dspState = dspRXHDR0) : Moves s (s.keepPrefix s.highPrefix 0)
  | lastPrefixByte (hdsp : s.dspState = dspRXHDR1) : Moves s (s.acceptByte.startPayload s.nextPrefix)
  | laterPrefixByte (hdsp : s.dspState = dspRXHDR1) (hmore : s.prefixLeftAfter ≠ 0) :
      Moves s (s.keepPrefix s.nextPrefix (s.hdrCnt + 1))
  | payloadByte (hdsp : s.dspState = dspRXPAY) {m : Memory}
      (hm : memWrite s.params.payloadMax s.rxBuf s.frCnt s.pins.inByte = .ok m) :
      Moves s (s.putPayloadByte m)
  | command (hdsp : s.dspState = dspDECODE) {t : Nat} (ht : s.codecResult = .ok (.read t)) : Moves s (s.startRead t)
  | badPayload (hdsp : s.dspState = dspDECODE) (c : ProtocolFault) : Moves s (s.raiseFault (.protocol c))
  | response (hdsp : s.dspState = dspENCODE) {m : Memory}
      (hm : memWriteRange s.params.txMax s.txBuf 0 (codecEncode s.params s.response) = .ok m) :
      Moves s (s.putResponse m)
  | txErr (hdsp : s.dspState = dspTX) : Moves s (s.raiseFault .ioTx)
  | responseByte (hdsp : s.dspState = dspTX) (b : Byte) : Moves s (s.emitByte b)
  | deadline (hsch : s.schState = schSTART) :
      Moves s { s with
        deadlineMs := fit .deadlineMs s.params.timeW (s.nowMs + s.timeoutMs) s.draws, schState := schSPACE }
  | attempt (hsch : s.schState = schSPACE) : Moves s { s.initAttempt with schState := schATTEMPT }
  | answerOk (hsch : s.schState = schCHECK) (hvalid : s.resValid = true) : Moves s (s.respond .ok)
  | answerTimeout (hsch : s.schState = schCHECK) : Moves s (s.respond .timeout)
  | retry (hsch : s.schState = schCHECK) : Moves s { s with schState := schSPACE }
  | wakeLow (hdec : s.decState = decWAKELOW) : Moves s (s.wakeTick s.params.wakeLowUs decWAKEHIGH)
  | wakeHigh (hdec : s.decState = decWAKEHIGH) : Moves s (s.wakeTick s.params.wakeHighUs decEDGE)
  | cap (hdec : s.decState = decEDGE) (hcap : s.atCap = true) :
      Moves s { s with pulseCnt := BitVec.ofNat 8 s.params.edgeCap, capHit := true }.conclude
  | sameLevel (hdec : s.decState = decEDGE) (hcap : s.atCap = false) :
      Moves s { s with pulseCnt := bump .pulseCnt s.pulseCnt s.draws }
  | edge (hdec : s.decState = decEDGE) (level : Bool) : Moves s (s.takeEdge level)
  | edgeBit (hdec : s.decState = decEDGE) (hbit : s.wantsBit = true) {t : State} (hacc : s.accumulate = some t) :
      Moves s (t.takeEdge false)

/-- What the operands of the operations in control need: indices inside the buffers and inside RAW. -/
structure State.Fits (s : State) : Prop where
  payload : s.frLen ≤ s.params.payloadMax
  receive : s.dspState = dspRXPAY → s.frCnt < s.params.payloadMax
  emit : s.dspState = dspTX → s.txCnt < s.params.txMax + s.params.lenBytes
  bytes : s.params.numBits ≤ 8 * s.raw.length

/-- The operation i, selected in s, makes a move wherever it answers, and answers wherever its operands exist. -/
structure Runs (s : State) (i : Instr) : Prop where
  moves : ∀ u, exec i s = .next u → Moves s u
  answers : s.Fits → ∃ u, exec i s = .next u

theorem Runs.of_next {s u : State} {i : Instr} (h : exec i s = .next u) (m : Moves s u) : Runs s i where
  moves v hv := by rw [h, Host.Outcome.next.injEq] at hv; exact hv ▸ m
  answers _ := ⟨u, h⟩

theorem Runs.of_holds {s : State} {i : Instr} (hdec : s.decState = decIDLE) (h : holds i = true) : Runs s i :=
  .of_next (exec_of_holds h s) (.hold hdec)

/-! ### The dispatcher's and the framer's operations -/

theorem runs_frRxHdr0 {s : State} (hdsp : s.dspState = dspRXHDR0) : Runs s .frRxHdr0 := by
  refine .of_next (execFrRxHdr0_eq s) ?_
  split
  · exact .onlyPrefixByte hdsp
  · exact .firstPrefixByte hdsp

theorem runs_frRxHdr1 {s : State} (hdsp : s.dspState = dspRXHDR1) : Runs s .frRxHdr1 := by
  refine .of_next (execFrRxHdr1_eq hdsp) ?_
  split
  · exact .lastPrefixByte hdsp
  · exact .laterPrefixByte hdsp ‹_›

theorem runs_frRxPay {s : State} (hdsp : s.dspState = dspRXPAY) : Runs s .frRxPay where
  moves u h := by
    obtain ⟨m, hm, h⟩ := orFault_next.1 h
    cases h
    exact .payloadByte hdsp hm
  answers hf := ⟨_, orFault_next.2 ⟨_, memWrite_ok.2 ⟨hf.receive hdsp, rfl⟩, rfl⟩⟩

/-- The payload fits RX_BUF, so the codec answers. -/
theorem State.Fits.codecResult {s : State} (h : s.Fits) : ∃ r, s.codecResult = .ok r := by
  have hp := memReadRange_of_le (free := Config.freeByte .rx s.bufDraw) (m := s.rxBuf) (i := 0)
    (show 0 + s.frLen ≤ s.params.payloadMax by have := h.payload; omega)
  exact ⟨_, by rw [State.codecResult, State.payload, hp]⟩

theorem hasCommand_iff {s : State} : s.hasCommand = true ↔ ∃ t, s.codecResult = .ok (.read t) := by
  unfold State.hasCommand
  split
  · rename_i t h; simp [h]
  · rename_i h; simpa using h

theorem runs_dspDecodeOk {s : State} (hdsp : s.dspState = dspDECODE) (hcmd : s.hasCommand = true) : Runs s .dspDecodeOk := by
  obtain ⟨t, ht⟩ := hasCommand_iff.1 hcmd
  exact .of_next (orFault_next.2 ⟨_, ht, rfl⟩) (.command hdsp ht)

theorem runs_dspDecodeFault {s : State} (hdsp : s.dspState = dspDECODE) (hcmd : s.hasCommand ≠ true) :
    Runs s .dspDecodeFault where
  moves u h := by
    obtain ⟨r, -, h⟩ := orFault_next.1 h
    cases r with
    | read t => cases h
    | fault c => cases h; exact .badPayload hdsp c
  answers hf := by
    obtain ⟨r, hr⟩ := hf.codecResult
    cases r with
    | read t => exact absurd (hasCommand_iff.2 ⟨t, hr⟩) hcmd
    | fault c => exact ⟨_, orFault_next.2 ⟨_, hr, rfl⟩⟩

theorem runs_dspEncode {s : State} (hdsp : s.dspState = dspENCODE) : Runs s .dspEncode := by
  obtain ⟨m, hm, -, -⟩ := memWriteRange_of_le (m := s.txBuf) (i := 0)
    (show 0 + (codecEncode s.params s.response).length ≤ s.params.txMax by
      simpa using codecEncode_length_le s.params s.response)
  exact .of_next (orFault_next.2 ⟨m, hm, rfl⟩) (.response hdsp hm)

theorem runs_frTxByte {s : State} (hdsp : s.dspState = dspTX) : Runs s .frTxByte where
  moves u h := by
    obtain ⟨b, -, h⟩ := orFault_next.1 h
    cases h
    exact .responseByte hdsp b
  answers hf := by
    have ht := hf.emit hdsp
    by_cases hlen : s.txCnt < s.params.lenBytes
    · exact ⟨_, orFault_next.2 ⟨_, State.txByte_ok.2 (.inl ⟨hlen, rfl⟩), rfl⟩⟩
    · exact ⟨_, orFault_next.2 ⟨_, State.txByte_ok.2 (.inr ⟨by omega, by omega, rfl⟩), rfl⟩⟩

/-- The four operations of an RX state, by R226's priority; `take` is the one that accepts the byte. -/
theorem runs_rx {s : State} {take : Instr} (nn : RxState) (hdec : s.decState = decIDLE) (hrx : s.inReady = true)
    (ht : Runs s take) :
    Runs s (if s.pins.inErr then .frRxErr nn else if s.pins.inValid then take
      else if s.pins.inEof then .frRxEof nn else .frRxStall nn) := by
  split_ifs
  · exact .of_next rfl (.rxErr hrx)
  · exact ht
  · exact .of_next rfl (.rxEof hrx)
  · exact .of_holds hdec rfl

/-- The dispatcher selects an operation that runs, whatever the inputs. -/
theorem runs_dsp {s : State} (hcode : s.dspState.toNat ≤ 8) (hdec : s.decState = decIDLE) :
    ∃ d, decode s.dspWord = .ok d ∧ Runs s d := by
  rw [decode_dspWord]
  rcases dspState_cases hcode with h | h | h | h | h | h | h | h | h
  · rw [h]
    refine ⟨_, rfl, ?_⟩
    split_ifs
    · exact .of_next rfl (.initFail h)
    · exact .of_next rfl (.initOk h)
  · rw [h]; exact ⟨_, rfl, runs_rx _ hdec (inReady_iff.2 (.inl h)) (runs_frRxHdr0 h)⟩
  · rw [h]; exact ⟨_, rfl, runs_rx _ hdec (inReady_iff.2 (.inr (.inl h))) (runs_frRxHdr1 h)⟩
  · rw [h]; exact ⟨_, rfl, runs_rx _ hdec (inReady_iff.2 (.inr (.inr h))) (runs_frRxPay h)⟩
  · rw [h]
    refine ⟨_, rfl, ?_⟩
    split_ifs with hcmd
    · exact runs_dspDecodeOk h hcmd
    · exact runs_dspDecodeFault h hcmd
  · rw [h]; exact ⟨_, rfl, .of_holds hdec rfl⟩
  · rw [h]; exact ⟨_, rfl, runs_dspEncode h⟩
  · rw [h]
    refine ⟨_, rfl, ?_⟩
    split_ifs
    · exact .of_next rfl (.txErr h)
    · exact runs_frTxByte h
    · exact .of_holds hdec rfl
  · rw [h]; exact ⟨_, rfl, .of_holds hdec rfl⟩

/-! ### The scheduler's and the decoder's operations -/

/-- The scheduler selects an operation that runs. -/
theorem runs_sch {s : State} (hcode : s.schState.toNat ≤ 4) (hdec : s.decState = decIDLE) :
    ∃ c, decode s.schWord = .ok c ∧ Runs s c := by
  rw [decode_schWord]
  rcases schState_cases hcode with h | h | h | h | h
  · rw [h]; exact ⟨_, rfl, .of_holds hdec rfl⟩
  · rw [h]; exact ⟨_, rfl, .of_next rfl (.deadline h)⟩
  · rw [h]
    refine ⟨_, rfl, ?_⟩
    split_ifs
    · exact .of_holds hdec rfl
    · exact .of_next rfl (.attempt h)
  · rw [h]; exact ⟨_, rfl, .of_holds hdec rfl⟩
  · rw [h]
    refine ⟨_, rfl, ?_⟩
    split_ifs with hvalid
    · exact .of_next rfl (.answerOk h hvalid)
    · exact .of_next rfl (.answerTimeout h)
    · exact .of_next rfl (.retry h)

theorem accumulate_eq_some {s t : State} : s.accumulate = some t ↔
    ∃ b, s.raw[s.bitCnt / 8]? = some b ∧
      t = { s with
        raw := s.raw.set (s.bitCnt / 8) (shiftInBit b (pulseBit s.params s.pulseCnt)), bitCnt := s.bitCnt + 1 } := by
  unfold State.accumulate
  split
  · rename_i h; simp [h]
  · rename_i b h; simp [h, eq_comm (b := t)]

theorem runs_decEdgeBit {s : State} (hdec : s.decState = decEDGE) (hbit : s.wantsBit = true) : Runs s .decEdgeBit where
  moves u h := by
    simp only [exec, execDecEdgeBit] at h
    split at h
    · rename_i t ht; cases h; exact .edgeBit hdec hbit ht
    · cases h
  answers hf := by
    have hidx : s.bitCnt / 8 < s.raw.length := by
      have := hf.bytes
      have : s.bitCnt < s.params.numBits := by simpa [State.wantsBit] using hbit
      omega
    have hacc := accumulate_eq_some.2 ⟨_, List.getElem?_eq_getElem hidx, rfl⟩
    exact ⟨_, by simp only [exec, execDecEdgeBit, hacc]; rfl⟩

/-- The decoder selects an operation that runs, whatever the line's level. -/
theorem runs_dec (s : State) : ∃ e, decode s.decWord = .ok e ∧ Runs s e := by
  rw [decode_decWord]
  rcases decState_cases s.decState with h | h | h | h
  · rw [h]; exact ⟨_, rfl, .of_holds h rfl⟩
  · rw [h]; exact ⟨_, rfl, .of_next rfl (.wakeLow h)⟩
  · rw [h]; exact ⟨_, rfl, .of_next rfl (.wakeHigh h)⟩
  · rw [h]
    refine ⟨_, rfl, ?_⟩
    show Runs s (ite _ _ _)
    split_ifs with hedge hpre hlevel hbit hcap
    · exact .of_next rfl (.edge h _)
    · exact .of_next rfl (.edge h true)
    · exact runs_decEdgeBit h hbit
    · exact .of_next rfl (.edge h false)
    · exact .of_next rfl (.cap h hcap)
    · exact .of_next rfl (.sameLevel h (by simpa using hcap))

/-! ### One tick of a state in which control is with one sequencer -/

theorem State.Control.schIdle {s : State} (h : s.Control) (hdsp : s.dspState ≠ dspEXEC) : s.schState = schIDLE :=
  not_not.1 fun hsch => hdsp (h.schedule.2 hsch)

theorem State.Control.decIdle {s : State} (h : s.Control) (hsch : s.schState ≠ schATTEMPT) : s.decState = decIDLE :=
  not_not.1 fun hdec => hsch (h.attempt.2 hdec)

theorem State.Control.dspExec {s : State} (h : s.Control) (hsch : s.schState ≠ schIDLE) : s.dspState = dspEXEC :=
  h.schedule.2 hsch

theorem State.Control.schAttempt {s : State} (h : s.Control) (hdec : s.decState ≠ decIDLE) : s.schState = schATTEMPT :=
  h.attempt.2 hdec

/-- A tick is the operation of the one sequencer in control. -/
theorem State.Control.tick_runs {s : State} (h : s.Control) : ∃ i, Runs s i ∧ s.tick = alone (exec i s) := by
  obtain ⟨hdsp, hsch, -, -⟩ := codesLegal_iff.1 h.codes
  by_cases hexec : s.dspState = dspEXEC
  · by_cases hatt : s.schState = schATTEMPT
    · obtain ⟨e, he, hr⟩ := runs_dec s
      exact ⟨e, hr, tick_dec h.codes hexec hatt he⟩
    · obtain ⟨c, hc, hr⟩ := runs_sch hsch (h.decIdle hatt)
      exact ⟨c, hr, tick_sch h.codes hexec hc (h.decIdle hatt)⟩
  · have hidle := h.schIdle hexec
    have hdec := h.decIdle (by rw [hidle]; decide)
    obtain ⟨d, hd, hr⟩ := runs_dsp hdsp hdec
    exact ⟨d, hr, tick_dsp h.codes hd hidle hdec⟩

/-- Everything a tick can do under the discipline of R37. -/
theorem State.Control.tick_moves {s t : State} (h : s.Control) (ht : s.tick = .next t) : ∃ u, Moves s u ∧ t = u.advance := by
  obtain ⟨i, hr, htick⟩ := h.tick_runs
  rw [htick] at ht
  cases he : exec i s with
  | next u => rw [he] at ht; cases ht; exact ⟨u, hr.moves u he, rfl⟩
  | fault f => rw [he] at ht; cases ht
  | refused r => rw [he] at ht; cases ht

/-- A step of a state in control answers wherever the operands exist. -/
theorem State.Control.step_answers {s : State} (h : s.Control) (hf : s.Fits) : ∃ t, step s = .next t := by
  by_cases hrst : s.pins.rst = true
  · exact ⟨s.resetTick, by simp [step, show s.params.legal = true from h.configured, hrst]⟩
  · obtain ⟨i, hr, htick⟩ := h.tick_runs
    obtain ⟨u, hu⟩ := hr.answers hf
    exact ⟨u.advance, by rw [step_eq_tick h.configured (by simpa using hrst), htick, hu]; rfl⟩

/-- To keep a property, a step has to establish it at reset, keep it in every move and not lose it by the counting of the tick. -/
theorem State.Control.step_keeps {P : State → Prop} {s t : State} (h : s.Control) (ht : step s = .next t)
    (hreset : P s.resetTick) (hmove : ∀ u, Moves s u → P u) (hadvance : ∀ u, P u → P u.advance) : P t := by
  obtain ⟨-, ⟨-, rfl⟩ | ⟨-, htick⟩⟩ := step_next ht
  · exact hreset
  · obtain ⟨u, hu, rfl⟩ := h.tick_moves htick
    exact hadvance u (hmove u hu)

end Sys2Proof.Machine
end

section
/-!
SUPPORT. Every invariant of Safety.lean is established by the reset, kept by every move of the sequencer in control, and not touched
by the counting of the tick.
-/

namespace Sys2Proof.Machine

/-! ### `conclude`, with the fields a result can write named -/

/-- `conclude` with its result read back from `recordResult`: every other field is that of s or a constant. -/
theorem State.conclude_eq (s : State) : s.conclude = { s with
    resValid := s.recordResult.resValid, resCause := s.recordResult.resCause, resHum := s.recordResult.resHum,
    resTemp := s.recordResult.resTemp, lastReadMs := s.nowMs, lastReadValid := true, decState := decIDLE,
    schState := schCHECK } := by
  simp [State.conclude]

/-- The edge bookkeeping without the conclusion (40_edge_decoder.md R150, R151, R153, R154). -/
def State.countEdge (s : State) (level : Bool) : State :=
  { s with edgeCnt := s.edgeCnt + 1, lastLevel := level, pulseCnt := 0#8 }

theorem State.takeEdge_of_last {s : State} (level : Bool) (h : s.lastEdge = true) :
    s.takeEdge level = (s.countEdge level).conclude := if_pos h

theorem State.takeEdge_of_not_last {s : State} (level : Bool) (h : s.lastEdge = false) :
    s.takeEdge level = s.countEdge level := if_neg (by simp [h])

theorem lastEdge_iff {s : State} : s.lastEdge = true ↔ s.edgeCnt + 1 = s.params.maxEdges := by simp [State.lastEdge]

theorem wantsBit_iff {s : State} : s.wantsBit = true ↔ s.bitCnt < s.params.numBits := by simp [State.wantsBit]

theorem atCap_iff {s : State} : s.atCap = true ↔ s.pulseCnt.toNat + 1 = s.params.edgeCap := by simp [State.atCap]

theorem accumulate_decState {s t : State} (h : s.accumulate = some t) : t.decState = s.decState := by
  obtain ⟨b, -, rfl⟩ := accumulate_eq_some.1 h
  rfl

theorem recordResult_resCause_le (s : State) : s.recordResult.resCause.toNat ≤ 2 := by
  unfold State.recordResult
  split_ifs <;> simp

/-! ### Control -/

theorem causeCode_le (c : Cause) : (causeCode c).toNat ≤ 7 := by
  cases c with
  | protocol p => cases p <;> decide
  | _ => decide

/-- Control with the dispatcher or the framer, in state code d. -/
theorem State.Control.of_dsp {s : State} (d : BitVec 4) (hd : d.toNat ≤ 8 ∧ d ≠ dspEXEC) (hp : s.configured)
    (hr : s.resCause.toNat ≤ 2) (hf : s.faultCause.toNat ≤ 7) (hdsp : s.dspState = d) (hsch : s.schState = schIDLE)
    (hdec : s.decState = decIDLE) : s.Control where
  configured := hp
  codes := codesLegal_iff.2 ⟨hdsp ▸ hd.1, by rw [hsch]; decide, hr, hf⟩
  schedule := iff_of_false (hdsp ▸ hd.2) (not_not.2 hsch)
  attempt := iff_of_false (by rw [hsch]; decide) (not_not.2 hdec)

/-- Control with the scheduler, in state code c. -/
theorem State.Control.of_sch {s : State} (c : BitVec 3) (hc : c.toNat ≤ 4 ∧ c ≠ schIDLE ∧ c ≠ schATTEMPT) (hp : s.configured)
    (hr : s.resCause.toNat ≤ 2) (hf : s.faultCause.toNat ≤ 7) (hdsp : s.dspState = dspEXEC) (hsch : s.schState = c)
    (hdec : s.decState = decIDLE) : s.Control where
  configured := hp
  codes := codesLegal_iff.2 ⟨by rw [hdsp]; decide, hsch ▸ hc.1, hr, hf⟩
  schedule := iff_of_true hdsp (hsch ▸ hc.2.1)
  attempt := iff_of_false (hsch ▸ hc.2.2) (not_not.2 hdec)

/-- Control with the decoder, in state code e. -/
theorem State.Control.of_dec {s : State} (e : BitVec 2) (he : e ≠ decIDLE) (hp : s.configured) (hr : s.resCause.toNat ≤ 2)
    (hf : s.faultCause.toNat ≤ 7) (hdsp : s.dspState = dspEXEC) (hsch : s.schState = schATTEMPT) (hdec : s.decState = e) :
    s.Control where
  configured := hp
  codes := codesLegal_iff.2 ⟨by rw [hdsp]; decide, by rw [hsch]; decide, hr, hf⟩
  schedule := iff_of_true hdsp (by rw [hsch]; decide)
  attempt := iff_of_true hsch (hdec ▸ he)

theorem State.Control.conclude {s : State} (h : s.Control) (hdec : s.decState ≠ decIDLE) : s.conclude.Control := by
  have hdsp := h.dspExec (by rw [h.schAttempt hdec]; decide)
  obtain ⟨-, -, -, hf⟩ := codesLegal_iff.1 h.codes
  rw [State.conclude_eq]
  exact .of_sch schCHECK (by decide) h.configured (recordResult_resCause_le s) hf hdsp rfl rfl

theorem State.Control.takeEdge {s : State} (h : s.Control) (hdec : s.decState ≠ decIDLE) (level : Bool) :
    (s.takeEdge level).Control := by
  have hcount : (s.countEdge level).Control := { h with }
  cases hl : s.lastEdge with
  | true => rw [State.takeEdge_of_last level hl]; exact hcount.conclude hdec
  | false => rw [State.takeEdge_of_not_last level hl]; exact hcount

theorem State.Control.accumulate {s t : State} (h : s.Control) (hacc : s.accumulate = some t) : t.Control := by
  obtain ⟨b, -, rfl⟩ := accumulate_eq_some.1 hacc
  exact { h with }

theorem State.Control.wakeTick {s : State} (h : s.Control) (hdec : s.decState ≠ decIDLE) (len : Nat) {e : BitVec 2}
    (he : e ≠ decIDLE) : (s.wakeTick len e).Control := by
  have hatt := h.schAttempt hdec
  obtain ⟨-, -, hr, hf⟩ := codesLegal_iff.1 h.codes
  unfold State.wakeTick
  split
  · exact .of_dec e he h.configured hr hf (h.dspExec (by rw [hatt]; decide)) hatt rfl
  · exact { h with }

theorem State.Control.advance {s : State} (h : s.Control) : s.advance.Control := { h with }

/-- Control is kept by every move (10_state.md R37, R45). -/
theorem State.Control.moves {s u : State} (h : s.Control) (hm : Moves s u) : u.Control := by
  have hp := h.configured
  obtain ⟨-, -, hr, hf⟩ := codesLegal_iff.1 h.codes
  have hexec : ∀ {c}, s.schState = c → c ≠ schIDLE → s.dspState = dspEXEC := fun e hc => h.dspExec (e ▸ hc)
  have hrest : ∀ {c}, s.schState = c → c ≠ schATTEMPT → s.decState = decIDLE := fun e hc => h.decIdle (e ▸ hc)
  have hidle : ∀ {d}, s.dspState = d → d ≠ dspEXEC → s.schState = schIDLE ∧ s.decState = decIDLE := fun e hne =>
    have hsch := h.schIdle (e ▸ hne)
    ⟨hsch, hrest hsch (by decide)⟩
  have hrx : s.inReady = true → s.schState = schIDLE ∧ s.decState = decIDLE := fun h' => hidle rfl (dspState_ne_exec_of_inReady h')
  cases hm with
  | hold _ => exact h
  | initFail e | badPayload e _ | txErr e =>
    obtain ⟨hsch, hdec⟩ := hidle e (by decide)
    exact .of_dsp dspHALT (by decide) hp hr (causeCode_le _) rfl hsch hdec
  | initOk e =>
    obtain ⟨hsch, hdec⟩ := hidle e (by decide)
    exact .of_dsp dspRXHDR0 (by decide) hp hr hf rfl hsch hdec
  | rxErr e | rxEof e =>
    obtain ⟨hsch, hdec⟩ := hrx e
    exact .of_dsp dspHALT (by decide) hp hr (causeCode_le _) rfl hsch hdec
  | onlyPrefixByte e | lastPrefixByte e =>
    obtain ⟨hsch, hdec⟩ := hidle e (by decide)
    exact .of_dsp _ (by split <;> decide) hp hr hf (State.startPayload_dspState _ _) hsch hdec
  | firstPrefixByte e | laterPrefixByte e _ =>
    obtain ⟨hsch, hdec⟩ := hidle e (by decide)
    exact .of_dsp dspRXHDR1 (by decide) hp hr hf rfl hsch hdec
  | payloadByte e _ =>
    obtain ⟨hsch, hdec⟩ := hidle e (by decide)
    exact .of_dsp _ (by split <;> decide) hp hr hf (putPayloadByte_dspState e _) hsch hdec
  | command e _ =>
    obtain ⟨hsch, hdec⟩ := hidle e (by decide)
    exact .of_sch schSTART (by decide) hp hr hf rfl rfl hdec
  | response e _ =>
    obtain ⟨hsch, hdec⟩ := hidle e (by decide)
    exact .of_dsp dspTX (by decide) hp hr hf rfl hsch hdec
  | responseByte e _ =>
    obtain ⟨hsch, hdec⟩ := hidle e (by decide)
    exact .of_dsp _ (by split <;> decide) hp hr hf (emitByte_dspState e _) hsch hdec
  | deadline e | retry e =>
    exact .of_sch schSPACE (by decide) hp hr hf (hexec e (by decide)) rfl (hrest e (by decide))
  | attempt e => exact .of_dec decWAKELOW (by decide) hp hr hf (hexec e (by decide)) rfl rfl
  | answerOk e _ | answerTimeout e => exact .of_dsp dspENCODE (by decide) hp hr hf rfl rfl (hrest e (by decide))
  | wakeLow e => exact h.wakeTick (by rw [e]; decide) _ (by decide)
  | wakeHigh e => exact h.wakeTick (by rw [e]; decide) _ (by decide)
  | cap e _ =>
    have hcap : ({ s with pulseCnt := BitVec.ofNat 8 s.params.edgeCap, capHit := true } : State).Control := { h with }
    exact hcap.conclude (show s.decState ≠ decIDLE by rw [e]; decide)
  | sameLevel _ _ => exact { h with }
  | edge e level => exact h.takeEdge (by rw [e]; decide) level
  | edgeBit e _ hacc =>
    exact (h.accumulate hacc).takeEdge (by rw [accumulate_decState hacc, e]; decide) false

/-! ### The counters -/

theorem betweenFrames_eq_false {s : State} {d : BitVec 4} (hd : s.dspState = d)
    (h : d = dspRXHDR1 ∨ d = dspRXPAY ∨ d = dspHALT) : s.betweenFrames = false := by
  unfold State.betweenFrames
  rw [hd]
  rcases h with rfl | rfl | rfl <;> decide

/-- FR_CNT against FR_LEN: the part of State.Counters that follows the dispatcher's state code (R58, R66, R211 to R213). -/
structure State.FrameCount (s : State) : Prop where
  frame : s.frCnt ≤ s.frLen ∨
    (s.insidePrefix = true ∧ s.prefixRest ≤ s.frCnt ∧ s.frLen % s.prefixRest = s.frCnt % s.prefixRest)
  framePrefix : s.dspState = dspRXHDR1 → s.frLen % s.prefixRest = s.frCnt % s.prefixRest
  frameLeft : s.dspState = dspRXPAY → s.frCnt < s.frLen
  frameWhole : s.betweenFrames = true → s.frCnt = s.frLen

/-- A whole frame counted, outside RX_PAY. -/
theorem State.FrameCount.of_whole {s : State} (he : s.frCnt = s.frLen) (hd : s.dspState ≠ dspRXPAY) : s.FrameCount where
  frame := .inl he.le
  framePrefix _ := by rw [he]
  frameLeft e := absurd e hd
  frameWhole _ := he

/-- A payload with bytes still to come. -/
theorem State.FrameCount.of_left {s : State} (hlt : s.frCnt < s.frLen) (hd : s.dspState = dspRXPAY) : s.FrameCount where
  frame := .inl hlt.le
  framePrefix e := absurd (hd.symm.trans e) (by decide)
  frameLeft _ := hlt
  frameWhole hb := by simp [betweenFrames_eq_false hd (by decide)] at hb

/-- Inside a length header FR_LEN keeps FR_CNT's part below the bytes received; so FR_CNT > FR_LEN only where FR_CNT
reaches above it. -/
theorem State.FrameCount.of_prefix {s : State} (hmod : s.frLen % s.prefixRest = s.frCnt % s.prefixRest)
    (hd : s.dspState = dspRXHDR1) : s.FrameCount where
  frame := by
    by_cases hlt : s.frCnt < s.prefixRest
    · rw [Nat.mod_eq_of_lt hlt] at hmod
      exact .inl (hmod ▸ Nat.mod_le _ _)
    · exact .inr ⟨by simp [State.insidePrefix, hd], by omega, hmod⟩
  framePrefix _ := hmod
  frameLeft e := absurd (hd.symm.trans e) (by decide)
  frameWhole hb := by simp [betweenFrames_eq_false hd (by decide)] at hb

/-- A halt out of an RX state leaves FR_LEN and FR_CNT as they stand (R214, R215). -/
theorem State.Counters.frameCount_halt {s : State} (h : s.Counters) {x : BitVec 8} {f : BitVec 4}
    (hf : f = causeCode .none ∨ f = causeCode .ioRx) :
    ({ s with dspState := dspHALT, exitCode := x, faultCause := f } : State).FrameCount where
  frame := h.frame.imp_right fun ⟨_, hle, hmod⟩ =>
    ⟨by simp [State.insidePrefix, State.haltedReceiving, hf], hle, hmod⟩
  framePrefix e := absurd e (show dspHALT ≠ dspRXHDR1 by decide)
  frameLeft e := absurd e (show dspHALT ≠ dspRXPAY by decide)
  frameWhole hb := by rw [betweenFrames_eq_false (d := dspHALT) rfl (by decide)] at hb; cases hb

/-- The three fault registers written, and so TX left. -/
theorem State.Counters.halt {s : State} (h : s.Counters) {x : BitVec 8} {f : BitVec 4}
    (hfc : ({ s with dspState := dspHALT, exitCode := x, faultCause := f } : State).FrameCount) :
    ({ s with dspState := dspHALT, exitCode := x, faultCause := f } : State).Counters :=
  { hfc, h with emitLeft := fun e => absurd e (show dspHALT ≠ dspTX by decide) }

/-- A complete length header: an empty frame is whole, another one has its payload to come (R212, R217). -/
theorem State.FrameCount.startPayload (s : State) (n : Nat) : (s.startPayload n).FrameCount := by
  by_cases hn : n = 0
  · exact .of_whole hn.symm (by rw [State.startPayload_dspState, if_pos hn]; decide)
  · exact .of_left (Nat.pos_of_ne_zero hn) (by rw [State.startPayload_dspState, if_neg hn])

/-- A complete length header is taken. -/
theorem State.Counters.startPayload {s : State} (h : s.Counters) {n : Nat} (hn : n < 256 ^ s.params.lenBytes) :
    (s.acceptByte.startPayload n).Counters :=
  { State.FrameCount.startPayload s.acceptByte n, h with
    length := hn
    prefixLeft := Nat.zero_le _
    frameWidth := by positivity
    emitLeft := fun e => absurd ((State.startPayload_dspState _ _).symm.trans e) (by split <;> decide) }

/-- A length header byte that is not the last: FR_LEN keeps everything of FR_CNT below the bytes received. -/
theorem State.Counters.keepPrefix {s : State} (h : s.Counters) {n k : Nat} (hn : n < 256 ^ s.params.lenBytes)
    (hk : k ≤ s.params.lenBytes - 2)
    (hmod : n % 256 ^ (s.params.lenBytes - 1 - k) = s.frCnt % 256 ^ (s.params.lenBytes - 1 - k)) :
    (s.keepPrefix n k).Counters :=
  have hfc : (s.keepPrefix n k).FrameCount := .of_prefix hmod rfl
  { hfc, h with
    length := hn
    prefixLeft := hk
    emitLeft := fun e => absurd e (show dspRXHDR1 ≠ dspTX by decide) }

/-- The first length header byte comes after a whole frame, whose low bytes FR_LEN keeps (R58, R211). -/
theorem State.Counters.highPrefix_mod {s : State} (h : s.Counters) (hdsp : s.dspState = dspRXHDR0) :
    s.highPrefix % 256 ^ (s.params.lenBytes - 1) = s.frCnt % 256 ^ (s.params.lenBytes - 1) := by
  rw [Machine.highPrefix_mod, h.frameWhole (by simp [State.betweenFrames, hdsp])]

/-- A later length header byte leaves the bytes below it (R212). -/
theorem State.Counters.nextPrefix_mod {s : State} (h : s.Counters) (hdsp : s.dspState = dspRXHDR1)
    (hmore : s.prefixLeftAfter ≠ 0) :
    s.nextPrefix % 256 ^ (s.params.lenBytes - 1 - (s.hdrCnt + 1)) =
      s.frCnt % 256 ^ (s.params.lenBytes - 1 - (s.hdrCnt + 1)) := by
  have hrest : s.params.lenBytes - 1 - s.hdrCnt = s.prefixLeftAfter + 1 := by unfold State.prefixLeftAfter at hmore ⊢; omega
  have hold := h.framePrefix hdsp
  rw [State.prefixRest, hrest] at hold
  have hdvd : 256 ^ s.prefixLeftAfter ∣ 256 ^ (s.prefixLeftAfter + 1) := Nat.pow_dvd_pow _ (Nat.le_succ _)
  rw [show s.params.lenBytes - 1 - (s.hdrCnt + 1) = s.prefixLeftAfter by omega, State.nextPrefix, setByte_mod,
    ← Nat.mod_mod_of_dvd s.frLen hdvd, hold, Nat.mod_mod_of_dvd s.frCnt hdvd]

/-- A payload byte: one more of the frame, the last one making it whole (R213). -/
theorem State.Counters.putPayloadByte {s : State} (h : s.Counters) (hdsp : s.dspState = dspRXPAY) (m : Memory) :
    (s.putPayloadByte m).Counters := by
  have hlt := h.frameLeft hdsp
  have hcode := putPayloadByte_dspState hdsp m
  have hfc : (s.putPayloadByte m).FrameCount := by
    by_cases hlast : s.frCnt + 1 = s.frLen
    · exact .of_whole hlast (by rw [hcode, if_pos hlast]; decide)
    · exact .of_left (show s.frCnt + 1 < s.frLen by omega) (by rw [hcode, if_neg hlast])
  exact { hfc, h with
    frameWidth := Nat.lt_of_le_of_lt hlt h.length
    emitLeft := fun e => absurd (hcode.symm.trans e) (by split <;> decide) }

/-- The response placed: its first frame byte is to come (R252). -/
theorem State.Counters.putResponse {s : State} (h : s.Counters) (hlegal : s.params.legal = true)
    (hdsp : s.dspState = dspENCODE) (m : Memory) : (s.putResponse m).Counters :=
  have hfc : (s.putResponse m).FrameCount :=
    .of_whole (h.frameWhole (by simp [State.betweenFrames, hdsp])) (show dspTX ≠ dspRXPAY by decide)
  { hfc, h with
    response := Nat.lt_of_le_of_lt (codecEncode_length_le s.params s.response) (legal_iff.1 hlegal).2.2
    emitted := Nat.zero_le _
    emitLeft := fun _ => Nat.add_pos_right _ (lenBytes_pos hlegal) }

/-- A response byte emitted; after the last one the next frame's length header may come (R219). -/
theorem State.Counters.emitByte {s : State} (h : s.Counters) (hdsp : s.dspState = dspTX) (b : Byte) :
    (s.emitByte b).Counters := by
  have hleft := h.emitLeft hdsp
  have hcode := emitByte_dspState hdsp b
  have hfc : (s.emitByte b).FrameCount :=
    .of_whole (h.frameWhole (by simp [State.betweenFrames, hdsp])) (by rw [hcode]; split <;> decide)
  refine { hfc, h with emitted := hleft, emitLeft := fun e => ?_ }
  rw [hcode] at e
  split at e
  · exact absurd e (by decide)
  · show s.txCnt + 1 < s.txLen + s.params.lenBytes
    omega

/-- The dispatcher's code rewritten from one state between two frames to another that is not TX. -/
theorem State.Counters.dspState {s : State} (h : s.Counters) (hb : s.betweenFrames = true) {d : BitVec 4}
    (hd : d ≠ dspRXPAY ∧ d ≠ dspTX) : ({ s with dspState := d } : State).Counters :=
  have hfc : ({ s with dspState := d } : State).FrameCount := .of_whole (h.frameWhole hb) hd.1
  { hfc, h with emitLeft := fun e => absurd e hd.2 }

/-! #### The attempt -/

/-- `conclude` leaves the decoder in IDLE, where no edge and no sample is to come. -/
theorem State.Counters.conclude {s : State} (h : s.Counters) {n : Nat} (hn : n ≤ s.params.maxEdges) {w : BitVec 8}
    (hw : w.toNat ≤ s.params.edgeCap) {level hit : Bool} :
    ({ s with edgeCnt := n, pulseCnt := w, lastLevel := level, capHit := hit } : State).conclude.Counters := by
  rw [State.conclude_eq]
  exact { h with
    lastRead := Nat.lt_of_le_of_lt (Nat.div_le_self _ _) h.time
    edges := hn
    pulse := hw
    wakeLow := fun e => absurd e (show decIDLE ≠ decWAKELOW by decide)
    wakeHigh := fun e => absurd e (show decIDLE ≠ decWAKEHIGH by decide)
    edgesLeft := fun e => absurd rfl e
    pulseLeft := fun e => absurd rfl e }

/-- Attempt initialisation (40_edge_decoder.md R142). -/
theorem State.Counters.initAttempt {s : State} (h : s.Counters) (hlegal : s.params.legal = true) :
    s.initAttempt.Counters := by
  obtain ⟨⟨hlow, -, hcap, -, hmax, -, -, -⟩, -, -⟩ := legal_iff.1 hlegal
  exact { h with
    bytes := List.length_replicate
    bits := Nat.zero_le _
    edges := Nat.zero_le _
    pulse := Nat.zero_le _
    wakeLow := fun _ => hlow
    wakeHigh := fun e => absurd e (show decWAKELOW ≠ decWAKEHIGH by decide)
    wake := Nat.zero_le _
    edgesLeft := fun _ => hmax
    pulseLeft := fun _ => hcap }

/-- WAKE_LOW counts on, or ends with the count at 0 for WAKE_HIGH (R143). -/
theorem State.Counters.wakeLowTick {s : State} (h : s.Counters) (hlegal : s.params.legal = true)
    (hdec : s.decState = decWAKELOW) : (s.wakeTick s.params.wakeLowUs decWAKEHIGH).Counters := by
  obtain ⟨⟨-, hhigh, -, -, -, -, -, -⟩, -, -⟩ := legal_iff.1 hlegal
  have hlt := h.wakeLow hdec
  have hact : s.decState ≠ decIDLE := by rw [hdec]; decide
  unfold State.wakeTick
  split
  · exact { h with
      wakeLow := fun e => absurd e (show decWAKEHIGH ≠ decWAKELOW by decide)
      wakeHigh := fun _ => hhigh
      wake := Nat.zero_le _
      edgesLeft := fun _ => h.edgesLeft hact
      pulseLeft := fun _ => h.pulseLeft hact }
  · exact { h with
      wakeLow := fun _ => show s.wakeCnt + 1 < s.params.wakeLowUs by omega
      wakeHigh := fun e => absurd (hdec.symm.trans e) (by decide)
      wake := show s.wakeCnt + 1 ≤ max s.params.wakeLowUs s.params.wakeHighUs - 1 by omega }

/-- WAKE_HIGH counts on, or ends with the count at 0 (R144). -/
theorem State.Counters.wakeHighTick {s : State} (h : s.Counters) (hdec : s.decState = decWAKEHIGH) :
    (s.wakeTick s.params.wakeHighUs decEDGE).Counters := by
  have hlt := h.wakeHigh hdec
  have hact : s.decState ≠ decIDLE := by rw [hdec]; decide
  unfold State.wakeTick
  split
  · exact { h with
      wakeLow := fun e => absurd e (show decEDGE ≠ decWAKELOW by decide)
      wakeHigh := fun e => absurd e (show decEDGE ≠ decWAKEHIGH by decide)
      wake := Nat.zero_le _
      edgesLeft := fun _ => h.edgesLeft hact
      pulseLeft := fun _ => h.pulseLeft hact }
  · exact { h with
      wakeLow := fun e => absurd (hdec.symm.trans e) (by decide)
      wakeHigh := fun _ => show s.wakeCnt + 1 < s.params.wakeHighUs by omega
      wake := show s.wakeCnt + 1 ≤ max s.params.wakeLowUs s.params.wakeHighUs - 1 by omega }

/-- An unchanged sample that is not the EDGE_CAP-th (R147). -/
theorem State.Counters.sameLevel {s : State} (h : s.Counters) (hlegal : s.params.legal = true) (hdec : s.decState = decEDGE)
    (hcap : s.atCap = false) : ({ s with pulseCnt := bump .pulseCnt s.pulseCnt s.draws } : State).Counters := by
  obtain ⟨⟨-, -, -, hmax, -, -, -, -⟩, -, -⟩ := legal_iff.1 hlegal
  have hlt : s.pulseCnt.toNat < s.params.edgeCap := h.pulseLeft (by rw [hdec]; decide)
  have hne : s.pulseCnt.toNat + 1 ≠ s.params.edgeCap := fun e => by simp [atCap_iff.2 e] at hcap
  have hcount : (bump .pulseCnt s.pulseCnt s.draws).toNat = s.pulseCnt.toNat + 1 := bump_toNat _ (by omega)
  exact { h with
    pulse := show (bump .pulseCnt s.pulseCnt s.draws).toNat ≤ s.params.edgeCap by omega
    pulseLeft := fun _ => show (bump .pulseCnt s.pulseCnt s.draws).toNat < s.params.edgeCap by omega }

/-- An edge counted: the last one leaves none, and the next width starts at 0. -/
theorem State.Counters.takeEdge {s : State} (h : s.Counters) (hlegal : s.params.legal = true)
    (hdec : s.decState = decEDGE) (level : Bool) : (s.takeEdge level).Counters := by
  obtain ⟨⟨-, -, hcap, -, -, -, -, -⟩, -, -⟩ := legal_iff.1 hlegal
  have hleft : s.edgeCnt < s.params.maxEdges := h.edgesLeft (by rw [hdec]; decide)
  cases hl : s.lastEdge with
  | true =>
    rw [State.takeEdge_of_last level hl]
    exact h.conclude hleft (Nat.zero_le _)
  | false =>
    rw [State.takeEdge_of_not_last level hl]
    have hmore : s.edgeCnt + 1 < s.params.maxEdges := by
      have : ¬ s.edgeCnt + 1 = s.params.maxEdges := fun e => by simp [lastEdge_iff.2 e] at hl
      omega
    exact { h with edges := hleft, pulse := Nat.zero_le _, edgesLeft := fun _ => hmore, pulseLeft := fun _ => hcap }

theorem State.Counters.accumulate {s t : State} (h : s.Counters) (hbit : s.wantsBit = true) (hacc : s.accumulate = some t) :
    t.Counters := by
  obtain ⟨b, -, rfl⟩ := accumulate_eq_some.1 hacc
  exact { h with bytes := by simpa using h.bytes, bits := wantsBit_iff.1 hbit }

theorem State.Counters.advance {s : State} (h : s.Counters) : s.advance.Counters :=
  { h with time := fit_lt _ _ _ _ }

/-- Every register keeps its width and range in every move (10_state.md R66). -/
theorem State.Counters.moves {s u : State} (h : s.Counters) (hc : s.Control) (hm : Moves s u) : u.Counters := by
  have hlegal : s.params.legal = true := hc.configured
  have hlen := lenBytes_pos hlegal
  have hwhole : ∀ {d}, s.dspState = d → (d = dspINIT ∨ d = dspDECODE ∨ d = dspEXEC ∨ d = dspTX) →
      s.betweenFrames = true := fun e hd => by
    rcases hd with rfl | rfl | rfl | rfl <;> simp [State.betweenFrames, e]
  have hexec : ∀ {c}, s.schState = c → c ≠ schIDLE → s.betweenFrames = true := fun e hne =>
    hwhole (hc.dspExec (e ▸ hne)) (by decide)
  cases hm with
  | hold _ => exact h
  | initFail e | badPayload e _ | txErr e =>
    exact h.halt (.of_whole (h.frameWhole (hwhole e (by decide))) (show dspHALT ≠ dspRXPAY by decide))
  | initOk e => exact h.dspState (hwhole e (by decide)) (by decide)
  | rxErr _ => exact h.halt (h.frameCount_halt (.inr rfl))
  | rxEof _ => exact h.halt (h.frameCount_halt (.inl rfl))
  | onlyPrefixByte _ => exact h.startPayload (highPrefix_lt hlen)
  | firstPrefixByte e => exact h.keepPrefix (highPrefix_lt hlen) (Nat.zero_le _) (h.highPrefix_mod e)
  | lastPrefixByte _ => exact h.startPayload (nextPrefix_lt hlen h.length)
  | laterPrefixByte e hmore =>
    exact h.keepPrefix (nextPrefix_lt hlen h.length) (by unfold State.prefixLeftAfter at hmore; omega) (h.nextPrefix_mod e hmore)
  | payloadByte e _ => exact h.putPayloadByte e _
  | command e ht =>
    obtain ⟨p, hp⟩ := codecResult_ok ht
    exact { h.dspState (d := dspEXEC) (hwhole e (by decide)) (by decide) with timeout := codecDecode_read_le hp }
  | response e _ => exact h.putResponse hlegal e _
  | responseByte e b => exact h.emitByte e b
  | deadline _ => exact { h with deadline := fit_lt _ _ _ _ }
  | attempt _ => exact { h.initAttempt hlegal with }
  | answerOk e _ | answerTimeout e =>
    exact { h.dspState (d := dspENCODE) (hexec e (by decide)) (by decide) with }
  | retry _ => exact { h with }
  | wakeLow e => exact h.wakeLowTick hlegal e
  | wakeHigh e => exact h.wakeHighTick e
  | cap e _ =>
    exact h.conclude h.edges (by rw [BitVec.toNat_ofNat]; exact Nat.mod_le _ _)
  | sameLevel e hcap => exact h.sameLevel hlegal e hcap
  | edge e level => exact h.takeEdge hlegal e level
  | edgeBit e hbit hacc =>
    have ht := h.accumulate hbit hacc
    obtain ⟨b, -, rfl⟩ := accumulate_eq_some.1 hacc
    exact ht.takeEdge hlegal e false


/-! ### The buffers -/

/-- A state that is in none of RX_PAY, DECODE and TX has no bytes to read. -/
theorem State.Buffers.of_forms {s : State} (hrx : s.rxBuf.wf s.params.payloadMax = true)
    (htx : s.txBuf.wf s.params.txMax = true) (hfits : s.txLen ≤ s.params.txMax) {d : BitVec 4} (hdsp : s.dspState = d)
    (hd : d ≠ dspRXPAY ∧ d ≠ dspDECODE ∧ d ≠ dspTX) : s.Buffers where
  rxForm := hrx
  txForm := htx
  rxWritten e := by subst hdsp; exact absurd e (by simp [hd])
  txWritten e := by subst hdsp; exact absurd e hd.2.2
  txFits := hfits

/-- A complete length header: no payload byte has arrived. -/
theorem State.Buffers.startPayload {s : State} (h : s.Buffers) (n : Nat) : (s.acceptByte.startPayload n).Buffers :=
  { h with
    rxWritten := fun _ i hi => absurd hi (Nat.not_lt_zero i)
    txWritten := fun e => absurd ((State.startPayload_dspState _ _).symm.trans e) (by split <;> decide) }

/-- A payload byte is written at FR_CNT, below which every byte is written (20_memory.md R81). -/
theorem State.Buffers.putPayloadByte {s : State} (h : s.Buffers) (hdsp : s.dspState = dspRXPAY) {m : Memory} {b : Byte}
    (hm : memWrite s.params.payloadMax s.rxBuf s.frCnt b = .ok m) : (s.putPayloadByte m).Buffers where
  rxForm := memWrite_wf hm h.rxForm
  txForm := h.txForm
  rxWritten _ i hi := by
    obtain ⟨-, rfl⟩ := memWrite_ok.1 hm
    show ((s.rxBuf.write s.frCnt b).read i).isSome = true
    by_cases heq : i = s.frCnt
    · rw [heq, Memory.read_write_same]; rfl
    · rw [Memory.read_write_other _ _ heq]
      have hi : i < s.frCnt + 1 := hi
      exact h.rxWritten (.inl hdsp) i (by omega)
  txWritten e := absurd ((putPayloadByte_dspState hdsp m).symm.trans e) (by split <;> decide)
  txFits := h.txFits

/-- A response is written whole (R83). -/
theorem State.Buffers.putResponse {s : State} (h : s.Buffers) {m : Memory}
    (hm : memWriteRange s.params.txMax s.txBuf 0 (codecEncode s.params s.response) = .ok m) : (s.putResponse m).Buffers where
  rxForm := h.rxForm
  txForm := memWriteRange_wf hm h.txForm
  rxWritten e := absurd e (show ¬(dspTX = dspRXPAY ∨ dspTX = dspDECODE) by decide)
  txWritten _ i hi := by
    have hle := codecEncode_length_le s.params s.response
    obtain ⟨m', hm', hread, -⟩ := memWriteRange_of_le (m := s.txBuf) (i := 0) (by simpa using hle)
    obtain rfl : m' = m := Except.ok.inj (hm'.symm.trans hm)
    have hi := hread i hi
    rw [Nat.zero_add] at hi
    exact Option.isSome_iff_exists.2 ⟨_, hi⟩
  txFits := codecEncode_length_le s.params s.response

theorem State.Buffers.emitByte {s : State} (h : s.Buffers) (hdsp : s.dspState = dspTX) (b : Byte) : (s.emitByte b).Buffers :=
  { h with
    rxWritten := fun e => absurd e (by rw [emitByte_dspState hdsp]; split <;> decide)
    txWritten := fun _ => h.txWritten hdsp }

theorem State.Buffers.conclude {s : State} (h : s.Buffers) : s.conclude.Buffers := by
  rw [State.conclude_eq]; exact { h with }

theorem State.Buffers.takeEdge {s : State} (h : s.Buffers) (level : Bool) : (s.takeEdge level).Buffers := by
  have hcount : (s.countEdge level).Buffers := { h with }
  cases hl : s.lastEdge with
  | true => rw [State.takeEdge_of_last level hl]; exact hcount.conclude
  | false => rw [State.takeEdge_of_not_last level hl]; exact hcount

theorem State.Buffers.accumulate {s t : State} (h : s.Buffers) (hacc : s.accumulate = some t) : t.Buffers := by
  obtain ⟨b, -, rfl⟩ := accumulate_eq_some.1 hacc
  exact { h with }

theorem State.Buffers.wakeTick {s : State} (h : s.Buffers) (len : Nat) (e : BitVec 2) : (s.wakeTick len e).Buffers := by
  unfold State.wakeTick; split <;> exact { h with }

theorem State.Buffers.advance {s : State} (h : s.Buffers) : s.advance.Buffers := { h with }

/-- The buffers keep their form and their written bytes in every move. -/
theorem State.Buffers.moves {s u : State} (h : s.Buffers) (hm : Moves s u) : u.Buffers := by
  cases hm with
  | hold _ => exact h
  | initFail _ | badPayload _ _ | txErr _ | rxErr _ | rxEof _ =>
    exact .of_forms h.rxForm h.txForm h.txFits (d := dspHALT) rfl (by decide)
  | initOk _ => exact .of_forms h.rxForm h.txForm h.txFits (d := dspRXHDR0) rfl (by decide)
  | onlyPrefixByte _ | lastPrefixByte _ => exact h.startPayload _
  | firstPrefixByte _ | laterPrefixByte _ _ => exact .of_forms h.rxForm h.txForm h.txFits (d := dspRXHDR1) rfl (by decide)
  | payloadByte e hm => exact h.putPayloadByte e hm
  | command _ _ => exact .of_forms h.rxForm h.txForm h.txFits (d := dspEXEC) rfl (by decide)
  | response _ hm => exact h.putResponse hm
  | responseByte e b => exact h.emitByte e b
  | answerOk _ _ | answerTimeout _ => exact .of_forms h.rxForm h.txForm h.txFits (d := dspENCODE) rfl (by decide)
  | deadline _ | attempt _ | retry _ | sameLevel _ _ => exact { h with }
  | wakeLow _ | wakeHigh _ => exact h.wakeTick _ _
  | cap _ _ =>
    have hcap : ({ s with pulseCnt := BitVec.ofNat 8 s.params.edgeCap, capHit := true } : State).Buffers := { h with }
    exact hcap.conclude
  | edge _ level => exact h.takeEdge level
  | edgeBit _ _ hacc => exact (h.accumulate hacc).takeEdge false

/-! ### The reading -/

theorem tempMagnitude_lt (r : RawSample) : tempMagnitude r < 32768 := by
  have hlow := r.r3.isLt
  have hhigh : (r.r2 &&& 0x7F#8).toNat ≤ 127 := by rw [BitVec.toNat_and]; exact Nat.and_le_right
  rw [tempMagnitude, be16_toNat]
  omega

/-- A temperature is at most 32767 either way (41_validator.md R173, R174). -/
theorem temperature_bounds (r : RawSample) : -32767 ≤ temperature r ∧ temperature r ≤ 32767 := by
  have := tempMagnitude_lt r
  unfold temperature
  split <;> omega

/-- The 16-bit pattern of a temperature reads back as it. -/
theorem int16_temperature_toInt (r : RawSample) : (int16 (temperature r)).toInt = temperature r := by
  have := temperature_bounds r
  rw [int16, BitVec.toInt_ofInt, Int.bmod_eq_of_le] <;> omega

/-- -32768 is no temperature. -/
theorem int16_temperature_ne (r : RawSample) : int16 (temperature r) ≠ 0x8000#16 := by
  intro e
  have hlow := (temperature_bounds r).1
  rw [← int16_temperature_toInt r, e] at hlow
  exact absurd hlow (by decide)

/-- A valid conclusion holds the Reading of RAW (R152, R176). -/
theorem State.conclude_holdsReading {s : State} (hbits : s.bitCnt ≤ s.params.numBits) (hv : s.conclude.resValid = true) :
    s.conclude.HoldsReading := by
  rw [State.conclude_eq] at hv ⊢
  unfold State.recordResult at hv ⊢
  split at hv
  · cases hv
  · rename_i hall
    split at hv
    · rename_i hsum
      rw [if_neg hall, if_pos hsum]
      exact ⟨rfl, rfl, by simp only; omega, hsum, rfl, int16_temperature_toInt _⟩
    · cases hv

theorem State.conclude_resTemp_ne {s : State} (h : s.resTemp ≠ 0x8000#16) : s.conclude.resTemp ≠ 0x8000#16 := by
  rw [State.conclude_resTemp]
  unfold State.recordResult
  split_ifs
  · exact h
  · exact int16_temperature_ne _
  · exact h

theorem accumulate_resTemp {s t : State} (h : s.accumulate = some t) : t.resTemp = s.resTemp := by
  obtain ⟨b, -, rfl⟩ := accumulate_eq_some.1 h
  rfl

/-- No reading waits: neither a result for the scheduler nor an answer for the dispatcher. -/
theorem State.Readings.of_codes {s : State} (hrange : s.resTemp ≠ 0x8000#16) {d : BitVec 4} (hdsp : s.dspState = d)
    (hd : d ≠ dspENCODE) {c : BitVec 3} (hsch : s.schState = c) (hc : c ≠ schCHECK) : s.Readings where
  checked e := by subst hsch; exact absurd e hc
  answered e := by subst hdsp; exact absurd e hd
  range := hrange

theorem State.Readings.conclude {s : State} (hrange : s.resTemp ≠ 0x8000#16) (hbits : s.bitCnt ≤ s.params.numBits)
    (hdsp : s.dspState = dspEXEC) : s.conclude.Readings where
  checked _ := State.conclude_holdsReading hbits
  answered e := absurd (hdsp.symm.trans ((State.conclude_dspState s).symm.trans e)) (by decide)
  range := State.conclude_resTemp_ne hrange

theorem State.Readings.takeEdge {s : State} (hrange : s.resTemp ≠ 0x8000#16) (hbits : s.bitCnt ≤ s.params.numBits)
    (hc : s.Control) (hdec : s.decState ≠ decIDLE) (level : Bool) : (s.takeEdge level).Readings := by
  have hsch := hc.schAttempt hdec
  have hdsp := hc.dspExec (by rw [hsch]; decide)
  cases hl : s.lastEdge with
  | true =>
    rw [State.takeEdge_of_last level hl]
    exact .conclude (s := s.countEdge level) hrange hbits hdsp
  | false =>
    rw [State.takeEdge_of_not_last level hl]
    exact .of_codes (s := s.countEdge level) hrange hdsp (by decide) hsch (by decide)

theorem State.Readings.wakeTick {s : State} (hrange : s.resTemp ≠ 0x8000#16) (hc : s.Control) (hdec : s.decState ≠ decIDLE)
    (len : Nat) (e : BitVec 2) : (s.wakeTick len e).Readings := by
  have hsch := hc.schAttempt hdec
  have hdsp := hc.dspExec (by rw [hsch]; decide)
  unfold State.wakeTick
  split
  · exact .of_codes hrange hdsp (by decide) hsch (by decide)
  · exact .of_codes hrange hdsp (by decide) hsch (by decide)

theorem State.Readings.advance {s : State} (h : s.Readings) : s.advance.Readings where
  checked hsch hv := { h.checked hsch hv with }
  answered hdsp hk := { h.answered hdsp hk with }
  range := h.range

/-- A reading waits only where it is the checked Reading of RAW, in every move. -/
theorem State.Readings.moves {s u : State} (h : s.Readings) (hc : s.Control) (hk : s.Counters) (hm : Moves s u) :
    u.Readings := by
  have hexec : ∀ {c}, s.schState = c → c ≠ schIDLE → s.dspState = dspEXEC := fun e hne => hc.dspExec (e ▸ hne)
  have hatt : ∀ {e}, s.decState = e → e ≠ decIDLE → s.dspState = dspEXEC ∧ s.schState = schATTEMPT := fun e he =>
    have hsch := hc.schAttempt (e ▸ he)
    ⟨hexec hsch (by decide), hsch⟩
  have hidle : ∀ {d}, s.dspState = d → d ≠ dspEXEC → s.schState = schIDLE := fun e hne => hc.schIdle (e ▸ hne)
  have hrx : s.inReady = true → s.schState = schIDLE := fun h' => hidle rfl (dspState_ne_exec_of_inReady h')
  cases hm with
  | hold _ => exact h
  | initFail e | badPayload e _ | txErr e =>
    exact .of_codes h.range (d := dspHALT) rfl (by decide) (hidle e (by decide)) (by decide)
  | rxErr e | rxEof e => exact .of_codes h.range (d := dspHALT) rfl (by decide) (hrx e) (by decide)
  | initOk e => exact .of_codes h.range (d := dspRXHDR0) rfl (by decide) (hidle e (by decide)) (by decide)
  | onlyPrefixByte e | lastPrefixByte e =>
    exact .of_codes h.range (State.startPayload_dspState _ _) (by split <;> decide) (hidle e (by decide)) (by decide)
  | firstPrefixByte e | laterPrefixByte e _ =>
    exact .of_codes h.range (d := dspRXHDR1) rfl (by decide) (hidle e (by decide)) (by decide)
  | payloadByte e _ =>
    exact .of_codes h.range (putPayloadByte_dspState e _) (by split <;> decide) (hidle e (by decide)) (by decide)
  | command _ _ => exact .of_codes h.range (d := dspEXEC) rfl (by decide) (c := schSTART) rfl (by decide)
  | response e _ => exact .of_codes h.range (d := dspTX) rfl (by decide) (hidle e (by decide)) (by decide)
  | responseByte e _ =>
    exact .of_codes h.range (emitByte_dspState e _) (by split <;> decide) (hidle e (by decide)) (by decide)
  | deadline e | retry e =>
    exact .of_codes h.range (hexec e (by decide)) (by decide) (c := schSPACE) rfl (by decide)
  | attempt e => exact .of_codes h.range (hexec e (by decide)) (by decide) (c := schATTEMPT) rfl (by decide)
  | answerOk e hvalid =>
    exact ⟨fun e => absurd e (show schIDLE ≠ schCHECK by decide), fun _ _ => { h.checked e hvalid with }, h.range⟩
  | answerTimeout _ =>
    exact ⟨fun e => absurd e (show schIDLE ≠ schCHECK by decide), fun _ hk => (nomatch hk), h.range⟩
  | wakeLow e | wakeHigh e => exact .wakeTick h.range hc (by rw [e]; decide) _ _
  | cap e _ =>
    obtain ⟨hdsp, -⟩ := hatt e (by decide)
    exact State.Readings.conclude (s := { s with pulseCnt := BitVec.ofNat 8 s.params.edgeCap, capHit := true })
      h.range hk.bits hdsp
  | sameLevel e _ =>
    obtain ⟨hdsp, hsch⟩ := hatt e (by decide)
    exact .of_codes h.range hdsp (by decide) hsch (by decide)
  | edge e level => exact .takeEdge h.range hk.bits hc (by rw [e]; decide) level
  | edgeBit e hbit hacc =>
    have hrange := h.range
    rw [← accumulate_resTemp hacc] at hrange
    exact .takeEdge hrange (hk.accumulate hbit hacc).bits (hc.accumulate hacc) (by rw [accumulate_decState hacc, e]; decide)
      false

/-! ### The exit status -/

theorem State.ExitStatus.of_running {s : State} (hx : s.exitCode = 0#8) (hf : s.faultCause = causeCode .none) {d : BitVec 4}
    (hdsp : s.dspState = d) (hd : d ≠ dspHALT) : s.ExitStatus where
  running _ := ⟨hx, hf⟩
  stopped e := absurd (hdsp.symm.trans e) hd

/-- A fault's exit code is not 0 (60_exceptions.md R282). -/
theorem State.ExitStatus.raiseFault {s : State} (hlegal : s.params.legal = true) {c : Cause}
    (hc : causeCode c ≠ causeCode .none) : (s.raiseFault c).ExitStatus where
  running hne := absurd rfl hne
  stopped _ := .inr ⟨rfl, (legal_iff.1 hlegal).2.1, hc⟩

theorem State.ExitStatus.stopClean (s : State) : s.stopClean.ExitStatus where
  running hne := absurd rfl hne
  stopped _ := .inl ⟨rfl, rfl⟩

theorem State.ExitStatus.conclude {s : State} (h : s.ExitStatus) : s.conclude.ExitStatus := by
  rw [State.conclude_eq]; exact { h with }

theorem State.ExitStatus.takeEdge {s : State} (h : s.ExitStatus) (level : Bool) : (s.takeEdge level).ExitStatus := by
  have hcount : (s.countEdge level).ExitStatus := { h with }
  cases hl : s.lastEdge with
  | true => rw [State.takeEdge_of_last level hl]; exact hcount.conclude
  | false => rw [State.takeEdge_of_not_last level hl]; exact hcount

theorem State.ExitStatus.accumulate {s t : State} (h : s.ExitStatus) (hacc : s.accumulate = some t) : t.ExitStatus := by
  obtain ⟨b, -, rfl⟩ := accumulate_eq_some.1 hacc
  exact { h with }

theorem State.ExitStatus.wakeTick {s : State} (h : s.ExitStatus) (len : Nat) (e : BitVec 2) :
    (s.wakeTick len e).ExitStatus := by
  unfold State.wakeTick; split <;> exact { h with }

theorem State.ExitStatus.advance {s : State} (h : s.ExitStatus) : s.advance.ExitStatus := { h with }

theorem protocolCause_ne_none (c : ProtocolFault) : causeCode (.protocol c) ≠ causeCode .none := by
  cases c <;> decide

/-- The exit registers are written by a stop alone. -/
theorem State.ExitStatus.moves {s u : State} (h : s.ExitStatus) (hc : s.Control) (hm : Moves s u) : u.ExitStatus := by
  have hlegal : s.params.legal = true := hc.configured
  have hrun : ∀ {d}, s.dspState = d → d ≠ dspHALT → s.exitCode = 0#8 ∧ s.faultCause = causeCode .none :=
    fun e hd => h.running (e ▸ hd)
  cases hm with
  | hold _ => exact h
  | initFail _ | txErr _ | rxErr _ => exact .raiseFault hlegal (by decide)
  | badPayload _ c => exact .raiseFault hlegal (protocolCause_ne_none c)
  | rxEof _ => exact .stopClean s
  | initOk e =>
    obtain ⟨hx, hf⟩ := hrun e (by decide)
    exact .of_running hx hf (d := dspRXHDR0) rfl (by decide)
  | onlyPrefixByte e | lastPrefixByte e =>
    obtain ⟨hx, hf⟩ := hrun e (by decide)
    exact .of_running hx hf (State.startPayload_dspState _ _) (by split <;> decide)
  | firstPrefixByte e | laterPrefixByte e _ =>
    obtain ⟨hx, hf⟩ := hrun e (by decide)
    exact .of_running hx hf (d := dspRXHDR1) rfl (by decide)
  | payloadByte e _ =>
    obtain ⟨hx, hf⟩ := hrun e (by decide)
    exact .of_running hx hf (putPayloadByte_dspState e _) (by split <;> decide)
  | command e _ =>
    obtain ⟨hx, hf⟩ := hrun e (by decide)
    exact .of_running hx hf (d := dspEXEC) rfl (by decide)
  | response e _ =>
    obtain ⟨hx, hf⟩ := hrun e (by decide)
    exact .of_running hx hf (d := dspTX) rfl (by decide)
  | responseByte e _ =>
    obtain ⟨hx, hf⟩ := hrun e (by decide)
    exact .of_running hx hf (emitByte_dspState e _) (by split <;> decide)
  | answerOk e _ | answerTimeout e =>
    obtain ⟨hx, hf⟩ := hrun (hc.dspExec (by rw [e]; decide)) (by decide)
    exact .of_running hx hf (d := dspENCODE) rfl (by decide)
  | deadline _ | attempt _ | retry _ | sameLevel _ _ => exact { h with }
  | wakeLow _ | wakeHigh _ => exact h.wakeTick _ _
  | cap _ _ =>
    have hcap : ({ s with pulseCnt := BitVec.ofNat 8 s.params.edgeCap, capHit := true } : State).ExitStatus := { h with }
    exact hcap.conclude
  | edge _ level => exact h.takeEdge level
  | edgeBit _ _ hacc => exact (h.accumulate hacc).takeEdge false

/-! ### Safe states -/

theorem State.Safe.moves {s u : State} (h : s.Safe) (hm : Moves s u) : u.Safe where
  control := h.control.moves hm
  counters := h.counters.moves h.control hm
  buffers := h.buffers.moves hm
  readings := h.readings.moves h.control h.counters hm
  exitStatus := h.exitStatus.moves h.control hm

theorem State.Safe.advance {s : State} (h : s.Safe) : s.advance.Safe where
  control := h.control.advance
  counters := h.counters.advance
  buffers := h.buffers.advance
  readings := h.readings.advance
  exitStatus := h.exitStatus.advance

/-- The reset value of every register is safe, whatever the model's own fields of the environment hold (10_state.md R65). -/
theorem resetOf_safe {p : Params} (hp : p.legal = true) (l : List Inputs) (n b : Nat) (acc em : List Byte) :
    ({ State.resetOf p with inputs := l, draws := n, bufDraw := b, accepted := acc, emitted := em } : State).Safe where
  control := .of_dsp dspINIT (by decide) hp (Nat.zero_le _) (Nat.zero_le _) rfl rfl rfl
  counters :=
    have hfc : ({ State.resetOf p with inputs := l, draws := n, bufDraw := b, accepted := acc, emitted := em } :
        State).FrameCount := .of_whole rfl (show dspINIT ≠ dspRXPAY by decide)
    { hfc with
      time := show 0 < 2 ^ p.timeW by positivity
      lastRead := show 0 < 2 ^ p.timeW by positivity
      deadline := show 0 < 2 ^ p.timeW by positivity
      bytes := List.length_replicate
      bits := Nat.zero_le _
      edges := Nat.zero_le _
      pulse := Nat.zero_le _
      wakeLow := fun e => absurd e (show decIDLE ≠ decWAKELOW by decide)
      wakeHigh := fun e => absurd e (show decIDLE ≠ decWAKEHIGH by decide)
      wake := Nat.zero_le _
      edgesLeft := fun e => absurd rfl e
      pulseLeft := fun e => absurd rfl e
      timeout := Nat.zero_le _
      length := show 0 < 256 ^ p.lenBytes by positivity
      prefixLeft := Nat.zero_le _
      frameWidth := show 0 < 256 ^ p.lenBytes by positivity
      response := show 0 < 256 ^ p.lenBytes by positivity
      emitted := Nat.zero_le _
      emitLeft := fun e => absurd e (show dspINIT ≠ dspTX by decide) }
  buffers := .of_forms (Memory.wf_nil _) (Memory.wf_nil _) (Nat.zero_le _) (d := dspINIT) rfl (by decide)
  readings := .of_codes (show 0#16 ≠ 0x8000#16 by decide) (d := dspINIT) rfl (by decide) (c := schIDLE) rfl (by decide)
  exitStatus := .of_running rfl rfl (d := dspINIT) rfl (by decide)

theorem resetTick_safe {s : State} (h : s.params.legal = true) : s.resetTick.Safe := resetOf_safe h _ _ _ _ _

/-- Every step of a safe state is safe. -/
theorem State.Safe.step {s t : State} (h : s.Safe) (ht : Machine.step s = .next t) : t.Safe :=
  h.control.step_keeps ht (resetTick_safe h.control.configured) (fun _ hm => h.moves hm) fun _ hu => hu.advance

/-- In a safe state with room for the payload every operand the selected operation reads exists. -/
theorem State.Safe.fits {s : State} (h : s.Safe) (hroom : s.params.roomy) : s.Fits := by
  obtain ⟨⟨-, -, -, -, -, hbits, -, -⟩, -, -⟩ := legal_iff.1 h.control.configured
  have hlen := h.counters.length
  have hpay : s.frLen ≤ s.params.payloadMax := by unfold Params.roomy at hroom; omega
  exact {
    payload := hpay
    receive := fun e => Nat.lt_of_lt_of_le (h.counters.frameLeft e) hpay
    emit := fun e => Nat.lt_of_lt_of_le (h.counters.emitLeft e) (Nat.add_le_add_right h.buffers.txFits _)
    bytes := by rw [h.counters.bytes, hbits] }

end Sys2Proof.Machine
end

section
/-!
SUPPORT. What a step does with the parameters (00_scope.md R9, R10): it never writes them, and refuses the illegal ones alone.
-/

namespace Sys2Proof.Machine

/-- No step writes the parameters (00_scope.md R9). -/
theorem step_params {s t : State} (h : step s = .next t) : t.params = s.params := by
  obtain ⟨-, ⟨-, rfl⟩ | ⟨-, htick⟩⟩ := step_next h
  · rfl
  · obtain ⟨-, d, c, e, a, b, x, -, -, -, -, -, -, -, rfl⟩ := tick_next htick
    rfl

theorem orFault_refused {α : Type} {r : Except Fault α} {k : α → Host.Outcome State Fault Refusal} {x : Refusal} :
    orFault r k = .refused x ↔ ∃ a, r = .ok a ∧ k a = .refused x := by
  cases r <;> simp [orFault]

/-- An operation refuses nothing but an operand that does not exist (log 11). -/
theorem exec_refused {i : Instr} {s : State} {x : Refusal} (h : exec i s = .refused x) : x = .notSelected := by
  cases i with
  | dspDecodeOk =>
    obtain ⟨r, -, h⟩ := orFault_refused.1 h
    cases r with
    | read t => cases h
    | fault c => cases h; rfl
  | dspDecodeFault =>
    obtain ⟨r, -, h⟩ := orFault_refused.1 h
    cases r with
    | read t => cases h; rfl
    | fault c => cases h
  | frRxPay | dspEncode | frTxByte | msgOk _ _ | msgTimeout =>
    obtain ⟨_, -, h⟩ := orFault_refused.1 h
    cases h
  | decEdgeBit =>
    simp only [exec, execDecEdgeBit] at h
    split at h <;> cases h
  | frame p =>
    simp only [exec, execFrame] at h
    split at h
    · obtain ⟨_, -, h⟩ := orFault_refused.1 h
      cases h
    · cases h
  | _ => cases h

theorem runOps_refused {d c e : Instr} {s : State} {x : Refusal} (h : runOps d c e s = .refused x) : x = .notSelected := by
  unfold runOps at h
  split at h
  · cases h
  · rename_i hd; cases h; exact exec_refused hd
  · split at h
    · cases h
    · rename_i hc; cases h; exact exec_refused hc
    · split at h
      · cases h
      · rename_i he; cases h; exact exec_refused he
      · cases h

/-- A tick is refused for a reserved code, a double write or a missing operand, never for its configuration. -/
theorem tick_ne_badParams (s : State) : s.tick ≠ .refused .badParams := by
  intro h
  unfold State.tick at h
  split at h
  · split at h
    · split at h
      · cases h
      · cases runOps_refused h
    · cases h
  · cases h

/-- A step refuses its configuration exactly where the parameters are not legal (00_scope.md R10). -/
theorem step_badParams_iff {s : State} : step s = .refused .badParams ↔ ¬ s.params.legal = true := by
  constructor
  · intro h hlegal
    by_cases hrst : s.pins.rst = true
    · simp [step, hlegal, hrst] at h
    · rw [step_eq_tick hlegal (by simpa using hrst)] at h
      exact tick_ne_badParams s h
  · intro h
    simp [step, h]

end Sys2Proof.Machine
end

section
/-!
SUPPORT. The statements of 00_scope.md, settled.
-/

namespace Sys2Proof.Machine

/-- Settles O54: a safe state's operands exist, so its step answers, and every move of it is safe again. -/
theorem safeStatesNeverStop : Obligations.SafeStatesNeverStop := by
  refine ⟨fun p l hp => resetOf_safe hp l 0 0 [] [], by decide, by unfold Params.roomy; decide, fun s hs hroom => ?_⟩
  obtain ⟨t, ht⟩ := hs.control.step_answers (hs.fits hroom)
  exact ⟨t, ht, hs.step ht, step_params ht⟩

/-- Settles O9: `legal` is the statement's list of conditions, and no tick refuses the configuration. -/
theorem illegalParametersAreRefused : Obligations.IllegalParametersAreRefused := by
  intro s
  rw [step_badParams_iff, legal_iff]
  simp only [and_assoc]

/-- Settles O60: the reset keeps the parameters, and the merged writes of a tick take them from the state at its start. -/
theorem parametersAreFixed : Obligations.ParametersAreFixed := fun _ _ h => step_params h

end Sys2Proof.Machine
end

section
/-!
SUPPORT. The invariants of 10_state.md, settled: each is established by the reset, kept by every move of the sequencer in control
and not touched by the counting of the tick.
-/

namespace Sys2Proof.Machine

theorem State.Control.step {s t : State} (h : s.Control) (ht : Machine.step s = .next t) : t.Control :=
  h.step_keeps ht (resetTick_safe h.configured).control (fun _ hm => h.moves hm) fun _ hu => hu.advance

theorem State.Counters.step {s t : State} (h : s.Counters) (hc : s.Control) (ht : Machine.step s = .next t) : t.Counters :=
  hc.step_keeps ht (resetTick_safe hc.configured).counters (fun _ hm => h.moves hc hm) fun _ hu => hu.advance

/-- FR_CNT ≤ FR_LEN wherever no length header is half received (10_state.md R66; log 20). -/
theorem State.Counters.frCnt_le {s : State} (h : s.Counters) (hin : s.insidePrefix = false) : s.frCnt ≤ s.frLen := by
  rcases h.frame with hle | ⟨hin', -⟩
  · exact hle
  · rw [hin] at hin'; cases hin'

/-- Under the default LEN_BYTES = 2 FR_LEN keeps one byte of the frame before (R211). -/
theorem State.Counters.prefixRest_two {s : State} (h : s.Counters) (hlen : s.params.lenBytes = 2) : s.prefixRest = 256 := by
  have hhdr : s.hdrCnt = 0 := by have := h.prefixLeft; omega
  simp [State.prefixRest, hlen, hhdr]

/-- Settles O48: control is handed over by one move at a time, and every move keeps the discipline. -/
theorem controlIsKept : Obligations.ControlIsKept := fun _ _ hc ht => hc.step ht

/-- Settles O49: every move keeps the ranges; the two bounds on FR_CNT are read off `State.Counters.frame`. -/
theorem countersStayInRange : Obligations.CountersStayInRange := by
  refine ⟨fun s t hc hk ht => hk.step hc ht, fun s hk hin => hk.frCnt_le hin, fun s hk hlen => ?_⟩
  have hrest := hk.prefixRest_two hlen
  refine ⟨fun hlt => ?_, fun hdsp => hrest ▸ hk.framePrefix hdsp⟩
  rcases hk.frame with hle | ⟨-, hge, -⟩
  · exact hle
  · omega

/-- Settles O50: a byte is counted in a move that writes it, and a move that writes none keeps the buffers' form. -/
theorem buffersStayWritten : Obligations.BuffersStayWritten := fun _ _ hc _ hb ht =>
  hc.step_keeps ht (resetTick_safe hc.configured).buffers (fun _ hm => hb.moves hm) fun _ hu => hu.advance

/-- Settles O51: only `conclude` makes a result valid, and it records the Reading of the RAW it checks. -/
theorem readingsStayChecked : Obligations.ReadingsStayChecked := fun _ _ hc hk hr ht =>
  hc.step_keeps ht (resetTick_safe hc.configured).readings (fun _ hm => hr.moves hc hk hm) fun _ hu => hu.advance

/-- Settles O52: only the moves into HALT write the exit registers, both at once. -/
theorem exitStatusIsKept : Obligations.ExitStatusIsKept := fun _ _ hc hx ht =>
  hc.step_keeps ht (resetTick_safe hc.configured).exitStatus (fun _ hm => hx.moves hc hm) fun _ hu => hu.advance

/-- Settles O11: no register's reset value depends on the inputs to come. -/
theorem resetStateIsSafe : Obligations.ResetStateIsSafe :=
  ⟨fun _ l hp => ⟨resetOf_safe hp l 0 0 [] [], Nat.zero_le _⟩,
    resetOf_safe (p := Params.default) (by decide) [] 0 0 [] [], Nat.zero_le _⟩

end Sys2Proof.Machine
end

section
/-!
SUPPORT. The step of 10_state.md settled from the laws of selection: the operation map (30_encoding.md R104), the tick that runs
what it selects, the reserved codes and the reset.
-/

namespace Sys2Proof.Machine

/-! ### The operation map -/

theorem dspState_ne_of_reserved {s : State} (h : 9 ≤ s.dspState.toNat) {d : BitVec 4} (hd : d.toNat ≤ 8) :
    s.dspState ≠ d := by
  rintro rfl; omega

theorem schState_ne_of_reserved {s : State} (h : 5 ≤ s.schState.toNat) {c : BitVec 3} (hc : c.toNat ≤ 4) :
    s.schState ≠ c := by
  rintro rfl; omega

theorem decode_dspWord_reserved {s : State} (h : 9 ≤ s.dspState.toNat) : decode s.dspWord = .error .reservedDspState := by
  obtain ⟨n, hn⟩ : ∃ n, s.dspState.toNat = n + 9 := ⟨_, (Nat.sub_add_cancel h).symm⟩
  rw [decode_dspWord, hn]; rfl

theorem decode_schWord_reserved {s : State} (h : 5 ≤ s.schState.toNat) : decode s.schWord = .error .reservedSchState := by
  obtain ⟨n, hn⟩ : ∃ n, s.schState.toNat = n + 5 := ⟨_, (Nat.sub_add_cancel h).symm⟩
  rw [decode_schWord, hn]; rfl

theorem spacingWait_iff {s : State} : s.spacingWait = true ↔
    s.lastReadValid = true ∧ (s.nowMs : Int) - s.lastReadMs < s.params.minSpacing := by
  simp [State.spacingWait]

theorem deadlinePassed_iff {s : State} : s.deadlinePassed = true ↔ s.deadlineMs ≤ s.nowMs := by simp [State.deadlinePassed]

theorem inPreamble_iff {s : State} : s.inPreamble = true ↔ s.edgeCnt < s.params.preambleEdges := by simp [State.inPreamble]

theorem isEdge_iff {s : State} : s.isEdge = true ↔ s.pins.gpioIn ≠ s.lastLevel := by simp [State.isEdge]

/-- The decoder's operation in EDGE, by the sample and the counters (R104; 40_edge_decoder.md R146 to R154). -/
theorem decode_decWord_edge {s : State} (h : s.decState = decEDGE) :
    decode s.decWord =
      .ok (if s.pins.gpioIn = s.lastLevel then
        (if s.pulseCnt.toNat + 1 = s.params.edgeCap then .decEdgeCap else .decEdgeHold)
      else if s.edgeCnt < s.params.preambleEdges then .decEdgePre
      else if s.pins.gpioIn = false then (if s.bitCnt < s.params.numBits then .decEdgeBit else .decEdgeExcess)
      else .decEdgeRise) := by
  rw [decode_decWord, h]
  show Except.ok (ite _ _ _) = _
  by_cases hedge : s.pins.gpioIn = s.lastLevel
  · simp only [isEdge_iff, hedge, ne_eq, not_true_eq_false, if_true, if_false, atCap_iff]
  · cases hlevel : s.pins.gpioIn <;>
      simp only [isEdge_iff, ne_eq, hedge, not_false_eq_true, if_true, if_false, inPreamble_iff, wantsBit_iff,
        hlevel ▸ hedge, Bool.false_eq_true, Bool.true_eq_false]

/-- Settles O7: the codes one by one, and the reserved ones together. -/
theorem operationMap : Obligations.OperationMap := by
  intro s
  refine ⟨?_, ?_, ?_⟩
  · by_cases hcode : s.dspState.toNat ≤ 8
    · rw [decode_dspWord]
      rcases dspState_cases hcode with h | h | h | h | h | h | h | h | h <;> rw [h] <;> rfl
    · have hres : 9 ≤ s.dspState.toNat := by omega
      simp [decode_dspWord_reserved hres, dspState_ne_of_reserved hres]
  · by_cases hcode : s.schState.toNat ≤ 4
    · rw [decode_schWord]
      simp only [spacingWait_iff, deadlinePassed_iff]
      rcases schState_cases hcode with h | h | h | h | h <;> rw [h] <;> rfl
    · have hres : 5 ≤ s.schState.toNat := by omega
      simp [decode_schWord_reserved hres, schState_ne_of_reserved hres]
  · rcases decState_cases s.decState with h | h | h | h
    · rw [decode_decWord, h]; rfl
    · rw [decode_decWord, h]; rfl
    · rw [decode_decWord, h]; rfl
    · rw [decode_decWord_edge h, h]; rfl

/-! ### The tick -/

theorem State.Running.step_eq_tick {s : State} (h : s.Running) : step s = s.tick := Machine.step_eq_tick h.configured h.noReset

/-- The step of a configured block in a tick with `rst` = 1 is the reset (70_reset_and_hazards.md R300). -/
theorem step_eq_resetTick {s : State} (h1 : s.params.legal = true) (h2 : s.pins.rst = true) : step s = .next s.resetTick := by
  simp [step, h1, h2]

theorem State.DspTurn.step_eq {s : State} (h : s.DspTurn) {i : Instr} (hi : decode s.dspWord = .ok i) :
    step s = alone (exec i s) := by
  rw [h.step_eq_tick, tick_dsp h.codes hi h.sch h.dec]

theorem State.SchTurn.step_eq {s : State} (h : s.SchTurn) {i : Instr} (hi : decode s.schWord = .ok i) :
    step s = alone (exec i s) := by
  rw [h.step_eq_tick, tick_sch h.codes h.dsp hi h.dec]

theorem State.DecTurn.step_eq {s : State} (h : s.DecTurn) {i : Instr} (hi : decode s.decWord = .ok i) :
    step s = alone (exec i s) := by
  rw [h.step_eq_tick, tick_dec h.codes h.dsp h.sch hi]

/-- The counting of a tick, where the operation has left TIME_US and the model's own fields alone. -/
theorem State.advance_eq {s t : State} (htime : t.timeUs = s.timeUs) (hparams : t.params = s.params)
    (hinputs : t.inputs = s.inputs) (hdraws : t.draws = s.draws) :
    t.advance = { t with
      timeUs := fit .timeUs s.params.timeW (s.timeUs + 1) s.draws, inputs := s.inputs.tail, draws := s.draws + 1 } := by
  rw [State.advance, htime, hparams, hinputs, hdraws]

/-- Settles O5: with no write in common the model's own check lets the three operations run. -/
theorem stepRunsSelectedOperations : Obligations.StepRunsSelectedOperations := by
  intro s d c e a b x hrun hd hc he hclash ha hb hx
  simp only [hrun.step_eq_tick, State.tick, hrun.codes, if_true, hd, hc, he, hclash, Bool.false_eq_true, if_false, runOps, ha, hb,
    hx]

/-- Settles O6: the other two sequencers hold, so the merged writes are those of the one in control. -/
theorem stepRunsTheSequencerInControl : Obligations.StepRunsTheSequencerInControl := by
  intro s t i ht hturn
  refine ⟨?_, fit_of_lt _⟩
  rcases hturn with ⟨hdsp, hi⟩ | ⟨hsch, hi⟩ | ⟨hdec, hi⟩
  · have hw := exec_dspWrites (ofDsp_of_decode hi) ht
    rw [hdsp.step_eq hi, ht, ← State.advance_eq hw.timeUs hw.params hw.inputs hw.draws]; rfl
  · have hw := exec_schWrites (ofSch_of_decode hi) ht
    rw [hsch.step_eq hi, ht, ← State.advance_eq hw.timeUs hw.params hw.inputs hw.draws]; rfl
  · have hw := exec_decWrites (ofDec_of_decode hi) ht
    rw [hdec.step_eq hi, ht, ← State.advance_eq hw.timeUs hw.params hw.inputs hw.draws]; rfl

/-- Settles O8: a reserved sequencer code is no legal code, which a tick asks first. -/
theorem reservedCodesAreRefused : Obligations.ReservedCodesAreRefused := by
  intro s hp hrst hres
  have hcodes : ¬ s.codesLegal = true := fun h => by
    obtain ⟨hdsp, hsch, -, -⟩ := codesLegal_iff.1 h
    omega
  rw [step_eq_tick hp hrst, State.tick, if_neg hcodes]

/-- Settles O10: the next state is `resetTick`, whose registers are those of R65 whatever the state. -/
theorem resetTickGivesTheResetState : Obligations.ResetTickGivesTheResetState := by
  intro s hp hrst
  refine ⟨s.resetTick, step_eq_resetTick hp hrst, ?_⟩
  and_intros <;> rfl

end Sys2Proof.Machine
end

section
/-!
SUPPORT. What a tick does with the result registers and with the byte streams, in every state: no discipline of R37 is assumed, so
these statements follow the merged writes of the three operations.
-/

namespace Sys2Proof.Machine

/-! ### The result registers -/

/-- `u` has the time, the Reading and the time of the last conclusion of `s`. -/
structure KeepsReading (s u : State) : Prop where
  timeUs : u.timeUs = s.timeUs
  resHum : u.resHum = s.resHum
  resTemp : u.resTemp = s.resTemp
  lastReadMs : u.lastReadMs = s.lastReadMs

/-- An edge keeps the Reading, or it is the last one and concludes (40_edge_decoder.md R155). -/
theorem KeepsReading.takeEdge {s t : State} (h : KeepsReading s t) (level : Bool) :
    (t.lastEdge = false ∧ KeepsReading s (t.takeEdge level)) ∨
      (t.lastEdge = true ∧ ∃ u, KeepsReading s u ∧ t.takeEdge level = u.conclude) := by
  have hcount : KeepsReading s (t.countEdge level) := { h with }
  cases hl : t.lastEdge with
  | false => exact .inl ⟨rfl, by rwa [State.takeEdge_of_not_last level hl]⟩
  | true => exact .inr ⟨rfl, _, hcount, State.takeEdge_of_last level hl⟩

/-- A decoder operation keeps the Reading, or it concludes (R148, R152, R155). -/
theorem exec_dec_reading {e : Instr} {s x : State} (hi : ofDec e = true) (h : exec e s = .next x) :
    (concludes e s = false ∧ KeepsReading s x) ∨ (concludes e s = true ∧ ∃ u, KeepsReading s u ∧ x = u.conclude) := by
  have hself : KeepsReading s s := ⟨rfl, rfl, rfl, rfl⟩
  cases e with
  | decIdle => cases h; exact .inl ⟨rfl, hself⟩
  | decWakeLow | decWakeHigh =>
    cases h
    refine .inl ⟨rfl, ?_⟩
    unfold State.wakeTick
    split <;> exact { hself with }
  | decEdgeHold => cases h; exact .inl ⟨rfl, { hself with }⟩
  | decEdgeCap =>
    cases h
    refine .inr ⟨rfl, _, ?_, rfl⟩
    exact { hself with }
  | decEdgePre | decEdgeExcess | decEdgeRise => cases h; exact hself.takeEdge _
  | decEdgeBit =>
    simp only [exec, execDecEdgeBit] at h
    split at h
    · rename_i t hacc
      cases h
      obtain ⟨b, -, rfl⟩ := accumulate_eq_some.1 hacc
      have hbit : KeepsReading s { s with
        raw := s.raw.set (s.bitCnt / 8) (shiftInBit b (pulseBit s.params s.pulseCnt)), bitCnt := s.bitCnt + 1 } := { hself with }
      exact hbit.takeEdge false
    · cases h
  | _ => cases hi

/-- An attempt concludes in EDGE only (R104). -/
theorem decEdge_of_concludes {s : State} {e : Instr} (he : decode s.decWord = .ok e) (h : concludes e s = true) :
    s.decState = decEDGE := by
  rw [decode_decWord] at he
  rcases decState_cases s.decState with hd | hd | hd | hd
  · rw [hd] at he; cases he; cases h
  · rw [hd] at he; cases he; cases h
  · rw [hd] at he; cases he; cases h
  · exact hd

/-- Where the attempt concludes the scheduler holds, or the tick is refused (10_state.md R37; log 10). -/
theorem holds_of_concludes {s : State} {d c e : Instr} (hclash : clashes d c e s = false) (h : concludes e s = true) :
    holds c = true := by
  simp only [clashes, h, Bool.or_eq_false_iff, Bool.and_eq_false_iff, Bool.not_eq_false'] at hclash
  simpa using hclash.1.2

/-- Only a valid result writes the Reading, that of the RAW it checks (40_edge_decoder.md R152; 41_validator.md R178). -/
theorem recordResult_of_changed {s : State} (h : s.recordResult.resHum ≠ s.resHum ∨ s.recordResult.resTemp ≠ s.resTemp) :
    s.recordResult.resValid = true ∧ s.recordResult.resCause = resNONE ∧ s.recordResult.resHum = humidity (sampleOf s.raw) ∧
      checksumOk (sampleOf s.raw) = true := by
  unfold State.recordResult at h ⊢
  split_ifs at h ⊢ with hbits hsum
  · simp at h
  · exact ⟨rfl, rfl, rfl, hsum⟩
  · simp at h

/-- Settles O53: LAST_READ_MS is kept or takes now_ms, and TIME_US counts the tick. -/
theorem lastReadNeverDecreases : Obligations.LastReadNeverDecreases := by
  intro s t horder hfit ht
  obtain ⟨-, ⟨hrst, rfl⟩ | ⟨-, htick⟩⟩ := step_next ht
  · exact ⟨Nat.zero_le _, fun h => by rw [hrst] at h; cases h⟩
  · obtain ⟨-, d, c, e, a, b, x, -, -, he, -, -, -, hx, rfl⟩ := tick_next htick
    have hlast : x.lastReadMs = s.lastReadMs ∨ x.lastReadMs = s.nowMs := by
      rcases exec_dec_reading (ofDec_of_decode he) hx with ⟨-, hk⟩ | ⟨-, u, hk, rfl⟩
      · exact .inl hk.lastReadMs
      · exact .inr (congrArg (· / 1000) hk.timeUs)
    have htime : (merge s a b x).advance.timeUs = s.timeUs + 1 := fit_of_lt _ hfit
    have hmono : s.timeUs / 1000 ≤ (s.timeUs + 1) / 1000 := Nat.div_le_div_right (Nat.le_succ _)
    unfold State.ClockOrder State.nowMs at *
    rw [htime]
    show x.lastReadMs ≤ _ ∧ (_ → _ ≤ x.lastReadMs)
    omega

/-- Settles O58: the changed Reading is the one `conclude` records, and RAW takes no other write in that tick. -/
theorem readingChangesOnlyWhenValid : Obligations.ReadingChangesOnlyWhenValid := by
  intro s t ht hrst hchange
  obtain ⟨-, ⟨hrst', -⟩ | ⟨-, htick⟩⟩ := step_next ht
  · rw [hrst] at hrst'; cases hrst'
  · obtain ⟨-, d, c, e, a, b, x, -, -, he, hclash, -, hb, hx, rfl⟩ := tick_next htick
    change x.resHum ≠ s.resHum ∨ x.resTemp ≠ s.resTemp at hchange
    rcases exec_dec_reading (ofDec_of_decode he) hx with ⟨-, hk⟩ | ⟨hconc, u, hk, rfl⟩
    · simp [hk.resHum, hk.resTemp] at hchange
    · rw [← hk.resHum, ← hk.resTemp] at hchange
      obtain ⟨hvalid, hcause, hhum, hsum⟩ := recordResult_of_changed hchange
      rw [exec_of_holds (holds_of_concludes hclash hconc), Host.Outcome.next.injEq] at hb
      subst hb
      have hraw : (merge s a s u.conclude).advance.raw = u.raw := by simp [merge]
      rw [hraw]
      exact ⟨decEdge_of_concludes he hconc, hvalid, hcause, hhum, hsum, rfl⟩

/-! ### The byte streams -/

/-- The framer operations that consume the offered request byte (20_memory.md R90). -/
def takesByte : Instr → Bool
  | .frRxHdr0 | .frRxHdr1 | .frRxPay => true
  | _ => false

/-- A dispatcher or framer operation consumes exactly the offered byte, or none. -/
theorem exec_dsp_accepted {d : Instr} {s a : State} (hi : ofDsp d = true) (h : exec d s = .next a) :
    a.accepted = if takesByte d then s.accepted ++ [s.pins.inByte] else s.accepted := by
  cases d with
  | frRxHdr0 =>
    rw [exec, execFrRxHdr0_eq] at h
    cases h
    split <;> rfl
  | frRxHdr1 =>
    cases h
    split <;> rfl
  | frRxPay | dspEncode | frTxByte =>
    obtain ⟨_, -, h⟩ := orFault_next.1 h
    cases h; rfl
  | dspDecodeOk | dspDecodeFault =>
    obtain ⟨r, -, h⟩ := orFault_next.1 h
    cases r <;> cases h
    rfl
  | dspInitFail | dspInitOk | frRxErr _ | frRxEof _ | frRxStall _ | dspExec | frTxErr | frTxStall | dspHalt => cases h; rfl
  | _ => cases hi

/-- A dispatcher or framer operation emits the byte TX_CNT selects where it is FR.TX_BYTE, and none else (43_framer.md R219). -/
theorem exec_dsp_emitted {d : Instr} {s a : State} (hi : ofDsp d = true) (h : exec d s = .next a) :
    a.emitted = s.emitted ∨ (d = .frTxByte ∧ ∃ b, s.txByte = .ok b ∧ a.emitted = s.emitted ++ [b]) := by
  cases d with
  | frTxByte =>
    obtain ⟨b, hb, h⟩ := orFault_next.1 h
    cases h
    exact .inr ⟨rfl, b, hb, rfl⟩
  | frRxHdr0 | frRxHdr1 =>
    cases h
    left; split <;> rfl
  | frRxPay | dspEncode =>
    obtain ⟨_, -, h⟩ := orFault_next.1 h
    cases h; exact .inl rfl
  | dspDecodeOk | dspDecodeFault =>
    obtain ⟨r, -, h⟩ := orFault_next.1 h
    cases r <;> cases h
    exact .inl rfl
  | dspInitFail | dspInitOk | frRxErr _ | frRxEof _ | frRxStall _ | dspExec | frTxErr | frTxStall | dspHalt =>
    cases h; exact .inl rfl
  | _ => cases hi

/-- Of an RX state's four operations only `take` consumes the byte, by R226's priority. -/
theorem valid_of_rx_takes {s : State} {nn : RxState} {take : Instr}
    (h : takesByte (if s.pins.inErr then .frRxErr nn else if s.pins.inValid then take
      else if s.pins.inEof then .frRxEof nn else .frRxStall nn) = true) : s.pins.inValid = true ∧ s.pins.inErr = false := by
  split_ifs at h with herr hvalid
  · cases h
  · exact ⟨hvalid, by simpa using herr⟩
  · cases h
  · cases h

theorem dspState_le_of_decode {s : State} {d : Instr} (hd : decode s.dspWord = .ok d) : s.dspState.toNat ≤ 8 := by
  by_contra hres
  rw [decode_dspWord_reserved (by omega)] at hd
  cases hd

/-- An operation that consumes the byte is selected in a request handshake only (10_state.md R34; 43_framer.md R226). -/
theorem handshake_of_takesByte {s : State} {d : Instr} (hd : decode s.dspWord = .ok d) (h : takesByte d = true) :
    s.inReady = true ∧ s.pins.inValid = true ∧ s.pins.inErr = false := by
  have hcode := dspState_le_of_decode hd
  rw [decode_dspWord] at hd
  rcases dspState_cases hcode with hs | hs | hs | hs | hs | hs | hs | hs | hs
  · rw [hs] at hd; cases hd; split at h <;> cases h
  · rw [hs] at hd; cases hd; exact ⟨inReady_iff.2 (.inl hs), valid_of_rx_takes h⟩
  · rw [hs] at hd; cases hd; exact ⟨inReady_iff.2 (.inr (.inl hs)), valid_of_rx_takes h⟩
  · rw [hs] at hd; cases hd; exact ⟨inReady_iff.2 (.inr (.inr hs)), valid_of_rx_takes h⟩
  · rw [hs] at hd; cases hd; split at h <;> cases h
  · rw [hs] at hd; cases hd; cases h
  · rw [hs] at hd; cases hd; cases h
  · rw [hs] at hd; cases hd; split_ifs at h <;> cases h
  · rw [hs] at hd; cases hd; cases h

/-- FR.TX_BYTE is selected in a response handshake only (R34, R226). -/
theorem handshake_of_frTxByte {s : State} (hd : decode s.dspWord = .ok .frTxByte) :
    s.dspState = dspTX ∧ s.pins.outReady = true ∧ s.pins.outErr = false := by
  have hcode := dspState_le_of_decode hd
  rw [decode_dspWord] at hd
  rcases dspState_cases hcode with hs | hs | hs | hs | hs | hs | hs | hs | hs
  · rw [hs] at hd; injection hd with hd; split_ifs at hd
  · rw [hs] at hd; injection hd with hd; split_ifs at hd
  · rw [hs] at hd; injection hd with hd; split_ifs at hd
  · rw [hs] at hd; injection hd with hd; split_ifs at hd
  · rw [hs] at hd; injection hd with hd; split_ifs at hd
  · rw [hs] at hd; cases hd
  · rw [hs] at hd; cases hd
  · rw [hs] at hd
    injection hd with hd
    split_ifs at hd with herr hready
    exact ⟨hs, hready, by simpa using herr⟩
  · rw [hs] at hd; cases hd

/-- Settles O57: only the framer moves bytes, and R104 selects its byte operations in a handshake alone. -/
theorem transfersNeedTheHandshake : Obligations.TransfersNeedTheHandshake := by
  intro s t ht
  obtain ⟨-, ⟨-, rfl⟩ | ⟨-, htick⟩⟩ := step_next ht
  · exact ⟨.inl rfl, .inl rfl⟩
  · obtain ⟨-, d, c, e, a, b, x, hd, -, -, -, ha, -, -, rfl⟩ := tick_next htick
    have hi := ofDsp_of_decode hd
    constructor
    · show a.accepted = _ ∨ _ ∧ _ ∧ _ ∧ a.accepted = _
      have hacc := exec_dsp_accepted hi ha
      by_cases htake : takesByte d = true
      · rw [if_pos htake] at hacc
        obtain ⟨hready, hvalid, herr⟩ := handshake_of_takesByte hd htake
        exact .inr ⟨hready, hvalid, herr, hacc⟩
      · rw [if_neg htake] at hacc
        exact .inl hacc
    · rcases exec_dsp_emitted hi ha with heq | ⟨rfl, b, hb, heq⟩
      · exact .inl heq
      · obtain ⟨hdsp, hready, herr⟩ := handshake_of_frTxByte hd
        exact .inr ⟨by simp [State.outValid, hdsp], hready, herr, b, by rw [State.outByte, if_pos hdsp, hb], heq⟩

end Sys2Proof.Machine
end

section
/-!
SUPPORT. The inputs a state does not read (10_state.md R32): an operation that reads no port that differs answers the same with
other inputs listed, and R104 selects the same operations.
-/

namespace Sys2Proof.Machine

/-! ### The same state with other inputs listed -/

/-- The state with its list of coming inputs replaced. -/
def State.withInputs (s : State) (l : List Inputs) : State := { s with inputs := l }

/-- An outcome with its next state, if any, changed by `f`. -/
def onNext (f : State → State) : Host.Outcome State Fault Refusal → Host.Outcome State Fault Refusal
  | .next t => .next (f t)
  | .fault x => .fault x
  | .refused x => .refused x

theorem onNext_orFault {α : Type} (f : State → State) (r : Except Fault α) (k : α → Host.Outcome State Fault Refusal) :
    onNext f (orFault r k) = orFault r fun a => onNext f (k a) := by
  cases r <;> rfl

section

variable (s : State) (l : List Inputs)

theorem State.withInputs_recordResult : (s.withInputs l).recordResult = s.recordResult.withInputs l := by
  rw [State.recordResult, State.recordResult, apply_ite (State.withInputs · l), apply_ite (State.withInputs · l)]
  rfl

theorem State.withInputs_conclude : (s.withInputs l).conclude = s.conclude.withInputs l := by
  rw [State.conclude, State.withInputs_recordResult]
  rfl

theorem State.withInputs_takeEdge (level : Bool) : (s.withInputs l).takeEdge level = (s.takeEdge level).withInputs l := by
  cases hl : s.lastEdge with
  | true =>
    rw [State.takeEdge_of_last level hl, State.takeEdge_of_last (s := s.withInputs l) level hl]
    exact State.withInputs_conclude (s.countEdge level) l
  | false => rw [State.takeEdge_of_not_last level hl, State.takeEdge_of_not_last (s := s.withInputs l) level hl]; rfl

theorem State.withInputs_wakeTick (len : Nat) (e : BitVec 2) :
    (s.withInputs l).wakeTick len e = (s.wakeTick len e).withInputs l := by
  rw [State.wakeTick, State.wakeTick, apply_ite (State.withInputs · l)]
  rfl

theorem State.withInputs_accumulate : (s.withInputs l).accumulate = s.accumulate.map (State.withInputs · l) := by
  cases h : s.raw[s.bitCnt / 8]? <;> simp [State.accumulate, State.withInputs, h]

end

/-- An operation that reads no port that differs answers the same, whatever inputs are listed. -/
theorem exec_withInputs {i : Instr} {s : State} {l : List Inputs}
    (hbyte : takesByte i = true → (s.withInputs l).pins.inByte = s.pins.inByte)
    (hline : i = .decEdgePre → (s.withInputs l).pins.gpioIn = s.pins.gpioIn) :
    exec i (s.withInputs l) = onNext (State.withInputs · l) (exec i s) := by
  cases i with
  | frRxHdr0 =>
    have hb := hbyte rfl
    simp only [exec, execFrRxHdr0, State.acceptByte, hb, onNext]
    rw [apply_ite (State.withInputs · l)]
    rfl
  | frRxHdr1 =>
    have hb := hbyte rfl
    simp only [exec, execFrRxHdr1, State.acceptByte, hb, onNext]
    rw [apply_ite (State.withInputs · l)]
    rfl
  | frRxPay =>
    have hb := hbyte rfl
    simp only [exec, execFrRxPay, State.acceptByte, hb, onNext_orFault]
    rfl
  | dspDecodeOk | dspDecodeFault =>
    simp only [exec, execDspDecodeOk, execDspDecodeFault, onNext_orFault]
    refine congrArg (orFault s.codecResult) (funext fun r => ?_)
    cases r <;> rfl
  | dspEncode | frTxByte | msgOk _ _ | msgTimeout =>
    simp only [exec, execDspEncode, execFrTxByte, execMsgOk, execMsgTimeout, State.sendResponse, onNext_orFault]
    rfl
  | decWakeLow | decWakeHigh => exact congrArg Host.Outcome.next (State.withInputs_wakeTick s l _ _)
  | decEdgeCap => 
    exact congrArg Host.Outcome.next
      (State.withInputs_conclude { s with pulseCnt := BitVec.ofNat 8 s.params.edgeCap, capHit := true } l)
  | decEdgePre =>
    simp only [exec, execDecEdgePre, hline rfl, State.withInputs_takeEdge]
    rfl
  | decEdgeExcess | decEdgeRise => exact congrArg Host.Outcome.next (State.withInputs_takeEdge s l _)
  | decEdgeBit =>
    simp only [exec, execDecEdgeBit, State.withInputs_accumulate]
    cases s.accumulate with
    | none => rfl
    | some t => exact congrArg Host.Outcome.next (State.withInputs_takeEdge t l _)
  | frame p =>
    simp only [exec, execFrame, apply_ite (onNext (State.withInputs · l)), onNext_orFault]
    rfl
  | _ => rfl

/-- A tick whose three operations read no port that differs answers the same, with the inputs after the first left over. -/
theorem runOps_withInputs {d c e : Instr} {s : State} {l : List Inputs}
    (hd : exec d (s.withInputs l) = onNext (State.withInputs · l) (exec d s))
    (hc : exec c (s.withInputs l) = onNext (State.withInputs · l) (exec c s))
    (he : exec e (s.withInputs l) = onNext (State.withInputs · l) (exec e s)) :
    runOps d c e (s.withInputs l) = onNext (State.withInputs · l.tail) (runOps d c e s) := by
  unfold runOps
  rw [hd, hc, he]
  cases exec d s with
  | fault _ | refused _ => rfl
  | next a =>
    cases exec c s with
    | fault _ | refused _ => rfl
    | next b =>
      cases exec e s with
      | fault _ | refused _ => rfl
      | next x => rfl

/-! ### The same operations selected -/

theorem takesByte_iff {i : Instr} : takesByte i = true ↔ i = .frRxHdr0 ∨ i = .frRxHdr1 ∨ i = .frRxPay := by
  cases i <;> simp [takesByte]

theorem decEdge_of_decEdgePre {s : State} (h : decode s.decWord = .ok .decEdgePre) : s.decState = decEDGE := by
  rw [decode_decWord] at h
  rcases decState_cases s.decState with hs | hs | hs | hs
  · rw [hs] at h; cases h
  · rw [hs] at h; cases h
  · rw [hs] at h; cases h
  · exact hs

/-- The state with `i` as this tick's inputs, and the inputs listed in it to come after. -/
def State.offer (s : State) (i : Inputs) : State := s.withInputs (i :: s.inputs)

section

variable {s : State} {i j : Inputs}

/-- An RX state reads its ports by R226's priority. -/
theorem State.ReadsSame.rxSelect (h : s.ReadsSame i j) (hrst : i.rst = false) (hrx : s.inReady = true) (nn : RxState)
    (take : Instr) :
    (if j.inErr then Instr.frRxErr nn else if j.inValid then take else if j.inEof then .frRxEof nn else .frRxStall nn) =
      if i.inErr then .frRxErr nn else if i.inValid then take else if i.inEof then .frRxEof nn else .frRxStall nn := by
  rw [← h.inErr hrst hrx]
  cases herr : i.inErr with
  | true => rfl
  | false =>
    rw [← h.inValid hrst hrx herr]
    cases hvalid : i.inValid with
    | true => rfl
    | false => rw [← h.inEof hrst hrx herr hvalid]

/-- TX reads its ports by R226's priority. -/
theorem State.ReadsSame.txSelect (h : s.ReadsSame i j) (hrst : i.rst = false) (hdsp : s.dspState = dspTX) :
    (if j.outErr then Instr.frTxErr else if j.outReady then .frTxByte else .frTxStall) =
      if i.outErr then .frTxErr else if i.outReady then .frTxByte else .frTxStall := by
  rw [← h.outErr hrst hdsp]
  cases herr : i.outErr with
  | true => rfl
  | false => rw [← h.outReady hrst hdsp herr]

/-- The dispatcher selects the same operation. -/
theorem State.ReadsSame.dspWord (h : s.ReadsSame i j) (hrst : i.rst = false) :
    decode (s.offer j).dspWord = decode (s.offer i).dspWord := by
  by_cases hcode : s.dspState.toNat ≤ 8
  · have hdsp : ∀ k, (s.offer k).dspState = s.dspState := fun _ => rfl
    rw [decode_dspWord, decode_dspWord, hdsp, hdsp]
    rcases dspState_cases hcode with hs | hs | hs | hs | hs | hs | hs | hs | hs <;> rw [hs]
    · exact congrArg (fun b => Except.ok (if b = true then Instr.dspInitFail else .dspInitOk)) (h.initFail hrst hs).symm
    · exact congrArg Except.ok (h.rxSelect hrst (inReady_iff.2 (.inl hs)) _ _)
    · exact congrArg Except.ok (h.rxSelect hrst (inReady_iff.2 (.inr (.inl hs))) _ _)
    · exact congrArg Except.ok (h.rxSelect hrst (inReady_iff.2 (.inr (.inr hs))) _ _)
    · rfl
    · rfl
    · rfl
    · exact congrArg Except.ok (h.txSelect hrst hs)
    · rfl
  · have hres : 9 ≤ s.dspState.toNat := by omega
    rw [decode_dspWord_reserved (s := s.offer j) hres, decode_dspWord_reserved (s := s.offer i) hres]

/-- The decoder selects the same operation. -/
theorem State.ReadsSame.decWord (h : s.ReadsSame i j) (hrst : i.rst = false) :
    decode (s.offer j).decWord = decode (s.offer i).decWord := by
  have hdec : ∀ k, (s.offer k).decState = s.decState := fun _ => rfl
  rcases decState_cases s.decState with hs | hs | hs | hs
  · rw [decode_decWord, decode_decWord, hdec, hdec, hs]; rfl
  · rw [decode_decWord, decode_decWord, hdec, hdec, hs]; rfl
  · rw [decode_decWord, decode_decWord, hdec, hdec, hs]; rfl
  · have hpins : ∀ k, (s.offer k).pins = k := fun _ => rfl
    rw [decode_decWord_edge (s := s.offer j) hs, decode_decWord_edge (s := s.offer i) hs, hpins, hpins, h.gpioIn hrst hs]
    rfl

/-- The selected operations answer the same. -/
theorem State.ReadsSame.runOps (h : s.ReadsSame i j) (hrst : i.rst = false) {d c e : Instr}
    (hd : decode (s.offer i).dspWord = .ok d) (hc : decode (s.offer i).schWord = .ok c)
    (he : decode (s.offer i).decWord = .ok e) : runOps d c e (s.offer j) = runOps d c e (s.offer i) := by
  have hdsp := ofDsp_of_decode hd
  have hsch := ofSch_of_decode hc
  have hdec := ofDec_of_decode he
  have hsame : ∀ k, (takesByte d = true → k.inByte = i.inByte) → (e = .decEdgePre → k.gpioIn = i.gpioIn) →
      Machine.runOps d c e (s.offer k) = onNext (State.withInputs · s.inputs) (Machine.runOps d c e (s.offer i)) := by
    intro k hbyte hline
    refine runOps_withInputs (s := s.offer i) (l := k :: s.inputs) (exec_withInputs hbyte ?_) (exec_withInputs ?_ ?_)
      (exec_withInputs ?_ hline)
    · rintro rfl; cases hdsp
    · intro ht; rcases takesByte_iff.1 ht with rfl | rfl | rfl <;> cases hsch
    · rintro rfl; cases hsch
    · intro ht; rcases takesByte_iff.1 ht with rfl | rfl | rfl <;> cases hdec
  rw [hsame i (fun _ => rfl) fun _ => rfl]
  refine hsame j (fun ht => ?_) fun hpre => ?_
  · obtain ⟨hready, hvalid, herr⟩ := handshake_of_takesByte hd ht
    exact (h.inByte hrst hready herr hvalid).symm
  · subst hpre
    exact (h.gpioIn hrst (decEdge_of_decEdgePre (s := s.offer i) he)).symm

/-- A tick without a reset answers the same. -/
theorem State.ReadsSame.tick (h : s.ReadsSame i j) (hrst : i.rst = false) : (s.offer j).tick = (s.offer i).tick := by
  have hcodes : (s.offer j).codesLegal = (s.offer i).codesLegal := rfl
  have hsch : decode (s.offer j).schWord = decode (s.offer i).schWord := rfl
  rw [State.tick, State.tick, hcodes, h.dspWord hrst, hsch, h.decWord hrst]
  cases hd : decode (s.offer i).dspWord with
  | error _ => rfl
  | ok d =>
    cases hc : decode (s.offer i).schWord with
    | error _ => rfl
    | ok c =>
      cases he : decode (s.offer i).decWord with
      | error _ => rfl
      | ok e =>
        have hclash : clashes d c e (s.offer j) = clashes d c e (s.offer i) := rfl
        simp only [hclash, h.runOps hrst hd hc he]

end

/-- Settles O59: the same operations are selected, and of these only the byte taken and a preamble edge's level are read. -/
theorem unreadInputsDoNotMatter : Obligations.UnreadInputsDoNotMatter := by
  intro s i j h
  show step (s.offer i) = step (s.offer j)
  by_cases hlegal : s.params.legal = true
  · cases hrst : i.rst with
    | true =>
      rw [step_eq_resetTick (s := s.offer i) hlegal hrst, step_eq_resetTick (s := s.offer j) hlegal (h.rst ▸ hrst)]
      rfl
    | false =>
      rw [step_eq_tick (s := s.offer i) hlegal hrst, step_eq_tick (s := s.offer j) hlegal (h.rst ▸ hrst), h.tick hrst]
  · exact ((step_badParams_iff (s := s.offer i)).2 hlegal).trans ((step_badParams_iff (s := s.offer j)).2 hlegal).symm

end Sys2Proof.Machine
end

section
/-!
SUPPORT. The output ports (10_state.md R33 to R35), the response byte they offer, and where an operation that no state of a run
selects stops (log 11, 12, 22).
-/

namespace Sys2Proof.Machine

/-! ### The outputs -/

theorem gpioOe_iff {s : State} : s.gpioOe = true ↔ s.decState = decWAKELOW ∨ s.decState = decWAKEHIGH := by
  simp [State.gpioOe]

theorem gpioOut_iff {s : State} : s.gpioOut = true ↔ s.decState = decWAKEHIGH := by simp [State.gpioOut]

theorem outValid_iff {s : State} : s.outValid = true ↔ s.dspState = dspTX := by simp [State.outValid]

theorem halted_iff {s : State} : s.halted = true ↔ s.dspState = dspHALT := by simp [State.halted]

theorem outByte_of_ne_tx {s : State} (h : s.dspState ≠ dspTX) : s.outByte = .ok 0#8 := if_neg h

theorem outByte_of_tx {s : State} (h : s.dspState = dspTX) : s.outByte = s.txByte := if_pos h

/-- The line is released outside the wake phases (40_edge_decoder.md R145). -/
theorem line_released {s : State} (h : s.decState = decIDLE ∨ s.decState = decEDGE) : s.gpioOe = false ∧ s.gpioOut = false := by
  unfold State.gpioOe State.gpioOut
  rcases h with h | h <;> rw [h] <;> decide

/-- Under R37's discipline the line is released outside EXEC. -/
theorem State.Control.line_released {s : State} (h : s.Control) (hdsp : s.dspState ≠ dspEXEC) :
    s.gpioOe = false ∧ s.gpioOut = false :=
  Machine.line_released (.inl (h.decIdle (by rw [h.schIdle hdsp]; decide)))

/-- In HALT every output but the exit registers is constant (60_exceptions.md R276). -/
theorem State.Control.outputs_halt {s : State} (h : s.Control) (hdsp : s.dspState = dspHALT) : s.outputs =
    { gpioOe := false, gpioOut := false, inReady := false, outValid := false, outByte := .ok 0#8, halted := true,
      exitCode := s.exitCode, faultCause := s.faultCause } := by
  obtain ⟨hoe, hout⟩ := h.line_released (by rw [hdsp]; decide)
  have hin : s.inReady = false := by unfold State.inReady; rw [hdsp]; decide
  have hvalid : s.outValid = false := by unfold State.outValid; rw [hdsp]; decide
  rw [State.outputs, hoe, hout, hin, hvalid, outByte_of_ne_tx (by rw [hdsp]; decide), halted_iff.2 hdsp]

/-- Settles O55: the ports are read off the state codes, and R37 leaves the line to the decoder in EXEC alone. -/
theorem outputsFollowTheState : Obligations.OutputsFollowTheState := fun _ =>
  ⟨gpioOe_iff, gpioOut_iff, inReady_iff, outValid_iff, outByte_of_ne_tx, halted_iff, line_released,
    fun hc => hc.line_released, fun hc => hc.outputs_halt⟩

/-! ### The response byte -/

/-- A byte of the frame still to send is a length byte or lies inside TX_BUF. -/
theorem txByte_answers {s : State} (hcnt : s.txCnt < s.txLen + s.params.lenBytes) (hlen : s.txLen ≤ s.params.txMax) :
    ∃ b, s.txByte = .ok b := by
  by_cases h : s.txCnt < s.params.lenBytes
  · exact ⟨_, State.txByte_ok.2 (.inl ⟨h, rfl⟩)⟩
  · exact ⟨_, State.txByte_ok.2 (.inr ⟨by omega, by omega, rfl⟩)⟩

/-- A length byte, most significant first (43_framer.md R219). -/
theorem txByte_length {s : State} {b : Byte} (hb : s.txByte = .ok b) (h : s.txCnt < s.params.lenBytes) :
    b.toNat = s.txLen / 256 ^ (s.params.lenBytes - 1 - s.txCnt) % 256 := by
  rcases State.txByte_ok.1 hb with ⟨-, rfl⟩ | ⟨hge, -⟩
  · exact lenByte_toNat _ _ _
  · omega

/-- A payload byte is the written byte of TX_BUF (R219). -/
theorem txByte_payload {s : State} {b c : Byte} (hb : s.txByte = .ok b) (h : s.params.lenBytes ≤ s.txCnt)
    (hc : s.txBuf.read (s.txCnt - s.params.lenBytes) = some c) : b = c := by
  rcases State.txByte_ok.1 hb with ⟨hlt, -⟩ | ⟨-, -, rfl⟩
  · omega
  · exact Memory.byte_of_read hc

theorem frTxByte_selected {s : State} (hdsp : s.dspState = dspTX) (herr : s.pins.outErr = false)
    (hready : s.pins.outReady = true) : decode s.dspWord = .ok .frTxByte := by
  rw [decode_dspWord, hdsp]
  show Except.ok (ite _ _ _) = _
  rw [herr, hready]; rfl

theorem exec_frTxByte {s : State} {b : Byte} (hb : s.txByte = .ok b) : exec .frTxByte s = .next (s.emitByte b) :=
  orFault_next.2 ⟨b, hb, rfl⟩

/-- Settles O22: the emitted byte is the one `txByte` selects, which `outByte` offers in TX. -/
theorem responseByte : Obligations.ResponseByte := by
  intro s hcnt hlen
  obtain ⟨b, hb⟩ := txByte_answers hcnt hlen
  refine ⟨_, b, exec_frTxByte hb, fun h2 hwidth => ⟨fun h0 => ?_, fun h1 => ?_⟩, txByte_length hb,
    fun hge c hc => txByte_payload hb hge hc, rfl, fun hturn hdsp herr hready => ⟨?_, ?_⟩⟩
  · have hbyte := txByte_length hb (by omega)
    rw [h2, h0] at hbyte
    omega
  · have hbyte := txByte_length hb (by omega)
    rw [h2, h1] at hbyte
    simpa using hbyte
  · rw [outByte_of_tx hdsp, hb]
  · rw [hturn.step_eq (frTxByte_selected hdsp herr hready), exec_frTxByte hb]; rfl

/-! ### Where an operation that is not selected stops -/

theorem codecResult_of_lt {s : State} (h : s.params.payloadMax < s.frLen) :
    s.codecResult = .error (.noSuchIndex s.params.payloadMax) := by
  rw [State.codecResult, State.payload, memReadRange_of_lt (Nat.zero_le _) (by omega)]

theorem accumulate_eq_none {s : State} (h : s.raw.length ≤ s.bitCnt / 8) : s.accumulate = none := by
  rw [State.accumulate, List.getElem?_eq_none h]

theorem txByte_of_le {s : State} (h : s.params.txMax + s.params.lenBytes ≤ s.txCnt) :
    s.txByte = .error (.noSuchIndex (s.txCnt - s.params.lenBytes)) := by
  rw [State.txByte, if_neg (by omega), memRead, if_neg (by omega)]

/-- A byte inside the buffer that nothing has written is read as the free one (log 6). -/
theorem memRead_of_unwritten {size : Nat} {free : Nat → Byte} {m : Memory} {i : Nat} (hi : i < size) (hm : m.read i = none) :
    memRead size free m i = .ok (free i) := memRead_ok.2 ⟨hi, Memory.byte_of_unwritten hm⟩

/-- Settles O16: the missing operand's own error is the operation's stop. -/
theorem stopsOfUnselectedOperations : Obligations.StopsOfUnselectedOperations := by
  intro s
  refine ⟨fun c hr => ?_, fun t hr => ?_, fun hlen => ?_, fun hraw => ?_, fun hcnt => ?_, fun hcnt => ?_, fun p hp => ?_,
    fun i hi hm => memRead_of_unwritten hi hm, fun hdsp hge hlt hm => ?_⟩
  · simp only [exec, execDspDecodeOk, hr, orFault_ok]
  · simp only [exec, execDspDecodeFault, hr, orFault_ok]
  · simp only [exec, execDspDecodeOk, execDspDecodeFault, codecResult_of_lt hlen, orFault_error, and_self]
  · simp only [exec, execDecEdgeBit, accumulate_eq_none hraw]
  · simp only [exec, execFrRxPay, memWrite, if_neg (Nat.not_lt.2 hcnt), orFault_error]
  · simp only [exec, execFrTxByte, txByte_of_le hcnt, orFault_error]
  · simp only [exec, execFrame, if_neg (Nat.not_lt.2 hp)]
  · rw [outByte_of_tx hdsp, State.txByte, if_neg (Nat.not_lt.2 hge), memRead_of_unwritten hlt hm]

end Sys2Proof.Machine
end

section
/-!
SUPPORT. What of RX_BUF a DECODE tick observes (20_memory.md R81, R82): the FR_LEN bytes of the payload, through the codec's result
alone.
-/

namespace Sys2Proof.Machine

/-! ### The same state with another RX_BUF -/

/-- The state with its request buffer replaced. -/
def State.withRxBuf (s : State) (m : Memory) : State := { s with rxBuf := m }

section

variable {s : State} {m : Memory}

/-- The codec reads the bytes below FR_LEN and no others (R81). -/
theorem codecResult_withRxBuf (hm : ∀ a, a < s.frLen → m.read a = s.rxBuf.read a) :
    (s.withRxBuf m).codecResult = s.codecResult := by
  have hpayload : (s.withRxBuf m).payload = s.payload := memReadRange_congr fun a _ ha => hm a (by rwa [Nat.zero_add] at ha)
  rw [State.codecResult, State.codecResult, hpayload]
  rfl

theorem hasCommand_withRxBuf (hm : ∀ a, a < s.frLen → m.read a = s.rxBuf.read a) :
    (s.withRxBuf m).hasCommand = s.hasCommand := by
  rw [State.hasCommand, State.hasCommand, codecResult_withRxBuf hm]

/-- In DECODE the codec's result selects the operation (30_encoding.md R104). -/
theorem decode_dspWord_decode (hdsp : s.dspState = dspDECODE) :
    decode s.dspWord = .ok (if s.hasCommand then .dspDecodeOk else .dspDecodeFault) := by
  rw [decode_dspWord, hdsp]
  rfl

/-- Both operations of DECODE read RX_BUF through the codec's result, and neither writes it. -/
theorem exec_decode_withRxBuf {i : Instr} (hi : i = .dspDecodeOk ∨ i = .dspDecodeFault)
    (hm : ∀ a, a < s.frLen → m.read a = s.rxBuf.read a) :
    exec i (s.withRxBuf m) = onNext (State.withRxBuf · m) (exec i s) := by
  rcases hi with rfl | rfl <;>
  · simp only [exec, execDspDecodeOk, execDspDecodeFault, codecResult_withRxBuf hm, onNext_orFault]
    refine congrArg (orFault s.codecResult) (funext fun r => ?_)
    cases r <;> rfl

/-- Counting the tick neither reads nor writes RX_BUF. -/
theorem alone_onNext_withRxBuf (o : Host.Outcome State Fault Refusal) :
    alone (onNext (State.withRxBuf · m) o) = onNext (State.withRxBuf · m) (alone o) := by
  cases o <;> rfl

theorem State.DspTurn.withRxBuf (h : s.DspTurn) : (s.withRxBuf m).DspTurn := { h with }

/-- The step in DECODE answers the same, RX_BUF apart, whatever stands in RX_BUF from FR_LEN up; a stop too. -/
theorem State.DspTurn.step_withRxBuf (h : s.DspTurn) (hdsp : s.dspState = dspDECODE)
    (hm : ∀ a, a < s.frLen → m.read a = s.rxBuf.read a) :
    step (s.withRxBuf m) = onNext (State.withRxBuf · m) (step s) := by
  have hsel : decode (s.withRxBuf m).dspWord = .ok (if s.hasCommand then .dspDecodeOk else .dspDecodeFault) := by
    rw [decode_dspWord_decode (s := s.withRxBuf m) hdsp, hasCommand_withRxBuf hm]
  rw [h.step_eq (decode_dspWord_decode hdsp), h.withRxBuf.step_eq hsel, ← alone_onNext_withRxBuf,
    exec_decode_withRxBuf (ite_eq_or_eq _ _ _) hm]

end

/-- Settles O29: DECODE reads RX_BUF through the codec's result alone, and the codec stops at FR_LEN. -/
theorem staleBytesAreNotRead : Obligations.StaleBytesAreNotRead := by
  intro s t m hturn hdsp hm ht
  show step (s.withRxBuf m) = .next (t.withRxBuf m)
  rw [hturn.step_withRxBuf hdsp hm, ht]
  rfl

end Sys2Proof.Machine
end

section
/-!
SUPPORT. What the wire formats read back (30_encoding.md R106 to R113): a written frame, a READ request in each accepted form,
and the canonical responses.
-/

namespace Sys2Proof.Machine

/-! ### Frames -/

/-- The length bytes of a written frame say its payload's length, so the frame is split at the payload's end (43_framer.md R223). -/
theorem splitFrame_frameBytes {len : Nat} {p : List Byte} (rest : List Byte) (hp : p.length < 256 ^ len) :
    splitFrame len (frameBytes len p ++ rest) = some (p, rest) := by
  have htake : (frameBytes len p ++ rest).take len = lenPrefix len p.length := by
    rw [frameBytes, List.append_assoc, List.take_left' (lenPrefix_length len p.length)]
  have hdrop : (frameBytes len p ++ rest).drop len = p ++ rest := by
    rw [frameBytes, List.append_assoc, List.drop_left' (lenPrefix_length len p.length)]
  have hfits : len + p.length ≤ (frameBytes len p ++ rest).length := by simp [frameBytes]
  simp only [splitFrame, htake, beNat_lenPrefix hp, hdrop, if_pos hfits, List.take_left, List.drop_left]

theorem decodeFrame_frameBytes {p : List Byte} (hp : p.length ≤ 65535) : decodeFrame (frameBytes 2 p) = .ok (.frame p) := by
  have h := splitFrame_frameBytes (len := 2) (p := p) [] (by omega)
  rw [List.append_nil] at h
  rw [decodeFrame, h]

/-! ### The default codec's decode, step by step -/

/-- Steps 1 and 2 pass both headers of a 2-tuple (44_command_dispatch.md R237, R238). -/
theorem decodeHeader_of_tupleForms {version : Byte} {h : List Byte} (hh : h ∈ tupleForms version) (r : List Byte) :
    ∃ q, decodeVersion version (h ++ r) = .ok q ∧ decodeTupleHeader q = .ok (2, r) := by
  simp only [tupleForms, List.mem_cons, List.not_mem_nil, or_false] at hh
  rcases hh with rfl | rfl
  · exact ⟨104#8 :: 2#8 :: r, if_pos rfl, rfl⟩
  · exact ⟨105#8 :: 0#8 :: 0#8 :: 0#8 :: 2#8 :: r, if_pos rfl, rfl⟩

theorem decodeReadName_nameRead (r : List Byte) : decodeReadName 4 (nameRead ++ r) = .ok r := by
  simp [decodeReadName, nameRead]

/-- Step 4 passes the atom `read` in each of its four forms (R240). -/
theorem decodeReadAtom_of_readAtomForms {a : List Byte} (ha : a ∈ readAtomForms) (r : List Byte) :
    decodeReadAtom (a ++ r) = .ok r := by
  simp only [readAtomForms, List.mem_cons, List.not_mem_nil, or_false] at ha
  rcases ha with rfl | rfl | rfl | rfl <;> exact decodeReadName_nameRead r

theorem decodeTimeout_byte (b : Byte) (rest : List Byte) : decodeTimeout (97#8 :: b :: rest) = .ok (b.setWidth 32) := rfl

/-- Step 5 takes a 32-bit integer that is not negative (R241). -/
theorem decodeTimeout_word {t : BitVec 32} (ht : t.toNat ≤ 2147483647) (rest : List Byte) :
    decodeTimeout (98#8 :: (bytes32 t ++ rest)) = .ok t := by
  have hmsb : t.msb = false := by rw [BitVec.msb_eq_false_iff_two_mul_lt]; omega
  have hbe := be32_bytes32 t
  simp [decodeTimeout, bytes32, hbe, hmsb]

/-- After the header and the atom, the timeout is what is left to decode. -/
theorem etfDecodeSteps_of_forms {version : Byte} {h a : List Byte} (hh : h ∈ tupleForms version) (ha : a ∈ readAtomForms)
    (r : List Byte) : etfDecodeSteps version (h ++ (a ++ r)) = decodeTimeout r := by
  obtain ⟨q, hversion, hheader⟩ := decodeHeader_of_tupleForms hh (a ++ r)
  simp only [etfDecodeSteps, hversion, hheader, decodeReadAtom_of_readAtomForms ha, if_true]

theorem etfDecode_of_forms {version : Byte} {h a r : List Byte} {t : BitVec 32} (hh : h ∈ tupleForms version)
    (ha : a ∈ readAtomForms) (hr : decodeTimeout r = .ok t) : etfDecode version (h ++ (a ++ r)) = .read t.toNat := by
  rw [etfDecode, etfDecodeSteps_of_forms hh ha, hr]

theorem codecDecode_of_forms {p : Params} {h a r : List Byte} {t : BitVec 32} (hetf : p.codec = .etf)
    (hh : h ∈ tupleForms p.version) (ha : a ∈ readAtomForms) (hr : decodeTimeout r = .ok t) (ht : t.toNat ≤ p.timeoutMax) :
    codecDecode p (h ++ (a ++ r)) = .read t.toNat := by
  simp only [codecDecode, hetf, etfDecode_of_forms hh ha hr, boundTimeout, if_pos ht]

/-! ### The canonical READ request -/

/-- `<int t>` of the canonical request (30_encoding.md R110, R111). -/
def timeoutField (t : BitVec 32) : List Byte := if t.toNat ≤ 255 then [0x61#8, t.setWidth 8] else 0x62#8 :: bytes32 t

/-- The canonical request has the short header and the atom under tag 100. -/
theorem readBytes_eq (t : BitVec 32) :
    readBytes t = [0x83#8, 104#8, 2#8] ++ (([100#8, 0#8, 4#8] ++ nameRead) ++ timeoutField t) := rfl

theorem decodeTimeout_timeoutField {t : BitVec 32} (ht : t.toNat ≤ 2147483647) (rest : List Byte) :
    decodeTimeout (timeoutField t ++ rest) = .ok t := by
  unfold timeoutField
  split
  · have hbyte : (t.setWidth 8).setWidth 32 = t := by
      apply BitVec.eq_of_toNat_eq
      simp only [BitVec.toNat_setWidth]
      omega
    exact (decodeTimeout_byte _ rest).trans (congrArg _ hbyte)
  · exact decodeTimeout_word ht rest

theorem readBytes_append (t : BitVec 32) (rest : List Byte) :
    readBytes t ++ rest = [0x83#8, 104#8, 2#8] ++ (([100#8, 0#8, 4#8] ++ nameRead) ++ (timeoutField t ++ rest)) := by
  simp only [readBytes_eq, List.append_assoc]

theorem etfDecode_readBytes {t : BitVec 32} (ht : t.toNat ≤ 2147483647) : etfDecode 0x83#8 (readBytes t) = .read t.toNat := by
  rw [← List.append_nil (readBytes t), readBytes_append]
  exact etfDecode_of_forms (.head _) (.head _) (decodeTimeout_timeoutField ht [])

theorem codecDecode_readBytes {t : BitVec 32} (ht : t.toNat ≤ 2147483647) (rest : List Byte) :
    codecDecode Params.default (readBytes t ++ rest) = .read t.toNat := by
  rw [readBytes_append]
  exact codecDecode_of_forms rfl (.head _) (.head _) (decodeTimeout_timeoutField ht rest) ht

theorem decodeMessage_readBytes {t : BitVec 32} (ht : t.toNat ≤ 2147483647) :
    decodeMessage (readBytes t) = .ok (.msgRead t) := by
  rw [decodeMessage, etfDecode_readBytes ht]
  simp

theorem readBytes_length_le (t : BitVec 32) : (readBytes t).length ≤ 15 := by
  unfold readBytes; split <;> simp [nameRead, bytes32]

/-! ### The canonical responses -/

/-- A canonical integer is read back: tag 98 stands only for a value outside 0..255, so no pattern is read in two ways. -/
theorem splitInt_etfInt {x : Int} (hlo : -2147483648 ≤ x) (hhi : x ≤ 2147483647) (rest : List Byte) :
    splitInt (etfInt x ++ rest) = some (BitVec.ofInt 32 x, rest) := by
  unfold etfInt
  split
  · have hbyte : (BitVec.ofInt 8 x).setWidth 32 = BitVec.ofInt 32 x := by
      apply BitVec.eq_of_toNat_eq
      simp only [BitVec.toNat_setWidth, BitVec.toNat_ofInt]
      omega
    simp [splitInt, hbyte]
  · have hwide : ¬ (BitVec.ofInt 32 x).toNat ≤ 255 := by
      rw [BitVec.toNat_ofInt]
      omega
    have hbe := be32_bytes32 (BitVec.ofInt 32 x)
    simp only [splitInt, bytes32, List.cons_append, List.nil_append, hbe, if_neg hwide]
    rfl

theorem neg_32767_le_toInt {v : BitVec 16} (hv : v ≠ 0x8000#16) : -32767 ≤ v.toInt := by
  have hne : v.toNat ≠ 0x8000 := fun h => hv (BitVec.eq_of_toNat_eq h)
  rw [BitVec.toInt_eq_toNat_cond]
  split <;> omega

theorem setWidth_ofInt (x : Int) : (BitVec.ofInt 32 x).setWidth 16 = BitVec.ofInt 16 x := by
  apply BitVec.eq_of_toNat_eq
  simp only [BitVec.toNat_setWidth, BitVec.toNat_ofInt]
  omega

/-- The two integers of an OK response are its operands. -/
theorem splitOkOperands_etfInt (h : BitVec 16) {v : BitVec 16} (hv : v ≠ 0x8000#16) :
    splitOkOperands (etfInt h.toNat ++ etfInt v.toInt) = some (.msgOk h v) := by
  have hlo := neg_32767_le_toInt hv
  have hhi : v.toInt ≤ 32767 := by have := @BitVec.toInt_lt 16 v; omega
  have hhum := splitInt_etfInt (x := h.toNat) (by omega) (by omega) (etfInt v.toInt)
  have htemp := splitInt_etfInt (x := v.toInt) (by omega) (by omega) []
  rw [List.append_nil] at htemp
  have hrange : (BitVec.ofInt 32 (h.toNat : Int)).toNat ≤ 65535 ∧ -32767 ≤ (BitVec.ofInt 32 v.toInt).toInt ∧
      (BitVec.ofInt 32 v.toInt).toInt ≤ 32767 := by
    rw [show (BitVec.ofInt 32 v.toInt).toInt = v.toInt from BitVec.toInt_signExtend_of_le (by decide), BitVec.toNat_ofInt]
    omega
  have hh : BitVec.ofInt 16 (h.toNat : Int) = h := by simp
  simp only [splitOkOperands, hhum, htemp, if_pos hrange, setWidth_ofInt, BitVec.ofInt_toInt, hh]

/-- An OK response is no READ request: its tuple has three elements (44_command_dispatch.md R239). -/
theorem etfDecode_okBytes (h v : BitVec 16) : etfDecode 0x83#8 (okBytes h v) = .fault .arity := rfl

theorem etfDecode_timeoutBytes : etfDecode 0x83#8 timeoutBytes = .fault .arity := rfl

/-- The two responses differ in their arity. -/
theorem okBytes_ne_timeoutBytes (h v : BitVec 16) : okBytes h v ≠ timeoutBytes := by
  simp [okBytes, timeoutBytes]

theorem decodeMessage_okBytes (h : BitVec 16) {v : BitVec 16} (hv : v ≠ 0x8000#16) :
    decodeMessage (okBytes h v) = .ok (.msgOk h v) := by
  have hresponse : decodeResponse (okBytes h v) = some (.msgOk h v) := by
    have hatom : (okBytes h v).take 8 = [0x83#8, 0x68#8, 0x03#8, 0x64#8, 0x00#8, 0x02#8] ++ nameOk := rfl
    rw [decodeResponse, if_neg (okBytes_ne_timeoutBytes h v), if_pos hatom]
    exact splitOkOperands_etfInt h hv
  rw [decodeMessage, etfDecode_okBytes, hresponse]

theorem decodeMessage_timeoutBytes : decodeMessage timeoutBytes = .ok .msgTimeout := by
  rw [decodeMessage, etfDecode_timeoutBytes, decodeResponse, if_pos rfl]

end Sys2Proof.Machine
end

section
/-!
SUPPORT. The fixed bits of the vectors (30_encoding.md R100 to R105): a vector is its state code and its condition bits, and the row
it selects fixes only bits it has tested.
-/

namespace Sys2Proof

/-- A DSP vector is made of its fields. -/
theorem exists_dspVector (v : BitVec 10) : ∃ k a b c d e f, v = dspVector k a b c d e f :=
  ⟨v.extractLsb' 6 4, v.getLsbD 5, v.getLsbD 4, v.getLsbD 3, v.getLsbD 2, v.getLsbD 1, v.getLsbD 0, by revert v; decide⟩

theorem exists_schVector (v : BitVec 6) : ∃ k a b c, v = schVector k a b c :=
  ⟨v.extractLsb' 3 3, v.getLsbD 2, v.getLsbD 1, v.getLsbD 0, by revert v; decide⟩

theorem exists_decVector (v : BitVec 7) : ∃ k a b c d e, v = decVector k a b c d e :=
  ⟨v.extractLsb' 5 2, v.getLsbD 4, v.getLsbD 3, v.getLsbD 2, v.getLsbD 1, v.getLsbD 0, by revert v; decide⟩

/-- The row a dispatcher vector selects fixes its state code and the condition bits tested on the way to it. -/
theorem matchesRow_of_decode_dsp {v : BitVec 10} {command : Bool} {i : Instr} (h : decode (.dsp v command) = .ok i) :
    matchesRow i (.dsp v command) = true := by
  obtain ⟨k, initFail, inErr, inValid, inEof, outErr, outReady, rfl⟩ := exists_dspVector v
  simp only [decode, decodeDsp, dspVector_code, dspVector_initFail, dspVector_inErr, dspVector_inValid, dspVector_inEof,
    dspVector_outErr, dspVector_outReady] at h
  by_cases hk : k.toNat ≤ 8
  · rcases Machine.dspState_cases hk with rfl | rfl | rfl | rfl | rfl | rfl | rfl | rfl | rfl <;>
    · obtain rfl := Except.ok.inj h
      clear h hk
      revert initFail inErr inValid inEof outErr outReady command
      decide
  · obtain ⟨n, hn⟩ : ∃ n, k.toNat = n + 9 := ⟨k.toNat - 9, by omega⟩
    rw [hn] at h
    cases h

/-- The same of the scheduler's vectors. -/
theorem matchesRow_of_decode_sch {v : BitVec 6} {i : Instr} (h : decode (.sch v) = .ok i) : matchesRow i (.sch v) = true := by
  obtain ⟨k, wait, valid, passed, rfl⟩ := exists_schVector v
  simp only [decode, decodeSch, schVector_code, schVector_w, schVector_v, schVector_d] at h
  by_cases hk : k.toNat ≤ 4
  · rcases Machine.schState_cases hk with rfl | rfl | rfl | rfl | rfl <;>
    · obtain rfl := Except.ok.inj h
      clear h hk
      revert wait valid passed
      decide
  · obtain ⟨n, hn⟩ : ∃ n, k.toNat = n + 5 := ⟨k.toNat - 5, by omega⟩
    rw [hn] at h
    cases h

/-- The same of the decoder's vectors, where no state code is reserved (10_state.md R44). -/
theorem matchesRow_of_decode_dec {v : BitVec 7} {i : Instr} (h : decode (.dec v) = .ok i) : matchesRow i (.dec v) = true := by
  obtain ⟨k, edge, cap, preamble, level, wants, rfl⟩ := exists_decVector v
  simp only [decode, decodeDec, decVector_code, decVector_e, decVector_c, decVector_p, decVector_s, decVector_b] at h
  rcases Machine.decState_cases k with rfl | rfl | rfl | rfl <;>
  · obtain rfl := Except.ok.inj h
    clear h
    revert edge cap preamble level wants
    decide

end Sys2Proof
end

section
/-!
SUPPORT. The meanings of the wire formats (log 12, 13) and of the operations that share their effect.
-/

namespace Sys2Proof.Machine

/-- A response placed in TX_BUF: its bytes q from index 0 up, every later byte as before, whatever the codec
(44_command_dispatch.md R252). -/
theorem sendResponse_next {s : State} {r : Response} {q : List Byte} (hq : codecEncode s.params r = q) :
    ∃ m, s.sendResponse r = .next { s with txBuf := m, txLen := q.length, txCnt := 0, dspState := dspTX } ∧
      (∀ k (h : k < q.length), m.read k = some q[k]) ∧ ∀ a, q.length ≤ a → m.read a = s.txBuf.read a := by
  have hfits : 0 + q.length ≤ s.params.txMax := by
    rw [Nat.zero_add, ← hq]
    exact codecEncode_length_le s.params r
  obtain ⟨m, hm, hread, hother⟩ := memWriteRange_of_le (m := s.txBuf) (i := 0) hfits
  refine ⟨m, ?_, fun k h => by simpa using hread k h, fun a h => hother a (.inr (by omega))⟩
  rw [State.sendResponse, hq, hm, orFault_ok]

/-- Under the default parameters ENCODE's bytes are the canonical ones (R244). -/
theorem codecEncode_default_ok (h v : BitVec 16) : codecEncode Params.default (.ok h.toNat v.toInt) = okBytes h v := rfl

theorem codecEncode_default_timeout : codecEncode Params.default .timeout = timeoutBytes := rfl

theorem exec_dspEncode_ok {s : State} (hk : s.respKind = .ok) : exec .dspEncode s = exec (.msgOk s.resHum s.resTemp) s := by
  simp only [exec, execDspEncode, State.response, hk, execMsgOk]

theorem exec_dspEncode_timeout {s : State} (hk : s.respKind = .timeout) : exec .dspEncode s = exec .msgTimeout s := by
  simp only [exec, execDspEncode, State.response, hk, execMsgTimeout]

/-- The codec's result on a payload that stands in RX_BUF (44_command_dispatch.md R249). -/
theorem codecResult_of_written {s : State} {p : List Byte} (hlen : s.frLen = p.length) (hmax : p.length ≤ s.params.payloadMax)
    (hread : ∀ k (h : k < p.length), s.rxBuf.read k = some p[k]) : s.codecResult = .ok (codecDecode s.params p) := by
  have hp := memReadRange_ok (free := Config.freeByte .rx s.bufDraw) (m := s.rxBuf) (i := 0)
    (show 0 + p.length ≤ s.params.payloadMax by omega) (fun k h => by rw [Nat.zero_add]; exact hread k h)
  rw [State.codecResult, State.payload, hlen, hp]

theorem exec_dspDecodeOk_of_read {s : State} {t : Nat} (h : s.codecResult = .ok (.read t)) :
    exec .dspDecodeOk s = .next (s.startRead t) := orFault_next.2 ⟨_, h, rfl⟩

end Sys2Proof.Machine
end

section
/-!
SUPPORT. The statements of 30_encoding.md, settled.
-/

namespace Sys2Proof.Machine

/-- Settles O1: a sequencer's row is read from its own bits, a wire format by what its bytes read back. -/
theorem decodeOfEncode : Obligations.DecodeOfEncode := by
  intro i hi
  cases i with
  | frame p => exact decodeFrame_frameBytes (of_decide_eq_true hi)
  | msgRead t => exact decodeMessage_readBytes (of_decide_eq_true hi)
  | msgOk h v => exact decodeMessage_okBytes h (of_decide_eq_true hi)
  | msgTimeout => exact decodeMessage_timeoutBytes
  | frRxErr nn | frRxEof nn | frRxStall nn => cases nn <;> rfl
  | _ => rfl

/-- Settles O2, format by format. -/
theorem decodedVectorsMatchTheirRows : Obligations.DecodedVectorsMatchTheirRows :=
  ⟨fun _ _ _ => matchesRow_of_decode_dsp, fun _ _ => matchesRow_of_decode_sch, fun _ _ => matchesRow_of_decode_dec⟩

/-- Settles O4: the length bytes say where the payload ends, however many they are. -/
theorem frameReadsBack : Obligations.FrameReadsBack := fun _ _ rest hp => splitFrame_frameBytes rest hp

/-- Settles O24: both messages are a response sent, and ENCODE sends the response its registers hold. -/
theorem responseMessagesAreOffered : Obligations.ResponseMessagesAreOffered := by
  intro s h v hp
  have hok : codecEncode s.params (.ok h.toNat v.toInt) = okBytes h v := by rw [hp, codecEncode_default_ok]
  have htimeout : codecEncode s.params .timeout = timeoutBytes := by rw [hp, codecEncode_default_timeout]
  constructor
  · obtain ⟨m, hm, hread, hother⟩ := sendResponse_next hok
    refine ⟨_, hm, hread, hother, rfl, ?_⟩
    rintro hk rfl rfl
    exact (exec_dspEncode_ok hk).trans hm
  · obtain ⟨m, hm, hread, hother⟩ := sendResponse_next htimeout
    exact ⟨_, hm, hread, hother, rfl, fun hk => (exec_dspEncode_timeout hk).trans hm⟩

/-- Settles O27: MSG.READ starts the scheduler by definition, and the codec reads the canonical message's timeout from RX_BUF. -/
theorem readMessageStartsTheScheduler : Obligations.ReadMessageStartsTheScheduler := by
  intro s t
  refine ⟨s.startRead t.toNat, rfl, rfl, fun hp ht hlen hread => exec_dspDecodeOk_of_read ?_⟩
  have hmax : (readBytes t).length ≤ s.params.payloadMax := by
    rw [hp]
    exact (readBytes_length_le t).trans (by decide)
  have hdecode := codecDecode_readBytes ht []
  rw [List.append_nil] at hdecode
  rw [codecResult_of_written hlen hmax hread, hp, hdecode]

/-- Settles O3: each word evaluates. -/
theorem tableWordsDecode : Obligations.TableWordsDecode := ⟨rfl, rfl, rfl, rfl, rfl, rfl, rfl, rfl⟩

/-- Settles O20: the payload fits RX_BUF, and the write leaves the bytes past it. -/
theorem frameIsTheReceivedPayload : Obligations.FrameIsTheReceivedPayload := by
  intro s p hlen hmax
  obtain ⟨m, hm, hread, hother⟩ := memWriteRange_of_le (m := s.rxBuf) (i := 0)
    (show 0 + p.length ≤ s.params.payloadMax by omega)
  have hexec : exec (.frame p) s = .next { s with
      rxBuf := m, frLen := p.length, frCnt := p.length, hdrCnt := 0, dspState := dspDECODE,
      accepted := s.accepted ++ frameBytes s.params.lenBytes p } := by
    simp only [exec, execFrame, if_pos hlen, hm, orFault_ok]
  exact ⟨_, hexec, fun k h => by simpa using hread k h, fun a h => hother a (.inr (by omega)), rfl⟩

/-- Settles O30: the header and the atom pass in every form, and each integer form is the timeout. -/
theorem readRequestDecodes : Obligations.ReadRequestDecodes := by
  refine ⟨fun p h a b t rest hetf hh ha => ⟨fun hb => ?_, fun ht hmax => ?_⟩,
    fun t rest ht => codecDecode_readBytes ht rest⟩
  · have hbyte : (b.setWidth 32).toNat = b.toNat := BitVec.toNat_setWidth_of_le (by decide)
    rw [List.append_assoc, List.append_assoc, ← hbyte]
    exact codecDecode_of_forms hetf hh ha (decodeTimeout_byte b rest) (hbyte ▸ hb)
  · rw [List.append_assoc, List.append_assoc]
    exact codecDecode_of_forms hetf hh ha (decodeTimeout_word ht rest) hmax

end Sys2Proof.Machine
end

section
/-!
SUPPORT. What the decoder's operations write (40_edge_decoder.md R141 to R155), the step each sample of EDGE selects, and the
statements that follow from one operation.
-/

namespace Sys2Proof.Machine

/-! ### The bit taken -/

/-- A byte shifted by one bit, as a number (R151). -/
theorem shiftInBit_toNat (b : Byte) (bit : Bool) : (shiftInBit b bit).toNat = (b.toNat * 2 + bit.toNat) % 256 := by
  have hbit : bit.toNat < 2 := bit.toNat_lt
  have hlow : b.toNat <<< 1 % 2 ^ 8 = (b.toNat % 128) <<< 1 := by simp only [Nat.shiftLeft_eq]; omega
  rw [shiftInBit, BitVec.toNat_or, BitVec.toNat_shiftLeft, hlow, BitVec.toNat_setWidth, BitVec.toNat_ofBool,
    Nat.mod_eq_of_lt (show bit.toNat < 2 ^ 8 by omega), ← Nat.shiftLeft_add_eq_or_of_lt hbit, Nat.shiftLeft_eq]
  omega

/-- The bit of the pulse goes into the byte of RAW that BIT_CNT selects (R151). -/
def State.takeBit (s : State) : State :=
  { s with
    raw := s.raw.modify (s.bitCnt / 8) (shiftInBit · (pulseBit s.params s.pulseCnt)), bitCnt := s.bitCnt + 1 }

theorem exec_decEdgeBit {s : State} (h : s.bitCnt / 8 < s.raw.length) :
    exec .decEdgeBit s = .next (s.takeBit.takeEdge false) := by
  have hbyte : s.raw[s.bitCnt / 8]? = some s.raw[s.bitCnt / 8] := List.getElem?_eq_getElem h
  have hacc : s.accumulate = some s.takeBit := by
    refine accumulate_eq_some.2 ⟨_, hbyte, ?_⟩
    rw [State.takeBit, List.modify_eq_set_getElem?, hbyte]
    rfl
  simp only [exec, execDecEdgeBit, hacc]

/-! ### The edges -/

theorem takeEdge_eq (s : State) (level : Bool) :
    s.takeEdge level = if s.edgeCnt + 1 = s.params.maxEdges then (s.countEdge level).conclude else s.countEdge level := by
  by_cases hlast : s.edgeCnt + 1 = s.params.maxEdges
  · rw [if_pos hlast, State.takeEdge_of_last level (lastEdge_iff.2 hlast)]
  · rw [if_neg hlast, State.takeEdge_of_not_last level (by simpa [← lastEdge_iff] using hlast)]

/-- The operations R150, R153 and R154 give to an edge that takes no bit, with the level each takes as the reference. -/
theorem exec_otherEdge {s : State} {i : Instr} {level : Bool}
    (h : (i = .decEdgePre ∧ level = s.pins.gpioIn) ∨ (i = .decEdgeRise ∧ level = true) ∨
      (i = .decEdgeExcess ∧ level = false)) : exec i s = .next (s.takeEdge level) := by
  rcases h with ⟨rfl, rfl⟩ | ⟨rfl, rfl⟩ | ⟨rfl, rfl⟩ <;> rfl

/-- The state an unchanged sample below the cap leaves (R147). -/
def State.countSample (s : State) : State := { s with pulseCnt := bump .pulseCnt s.pulseCnt s.draws }

/-- EDGE_CAP is at most 255, so PULSE_CNT counts below it without a wrap. -/
theorem countSample_toNat {s : State} (hp : s.configured) (h : s.pulseCnt.toNat + 1 < s.params.edgeCap) :
    s.countSample.pulseCnt.toNat = s.pulseCnt.toNat + 1 := by
  obtain ⟨⟨-, -, -, hcap, -⟩, -⟩ := legal_iff.1 hp
  exact bump_toNat s.draws (by omega)

/-- The state the cap concludes (R148). -/
def State.reachCap (s : State) : State := { s with pulseCnt := BitVec.ofNat 8 s.params.edgeCap, capHit := true }

theorem exec_decEdgeCap (s : State) : exec .decEdgeCap s = .next s.reachCap.conclude := rfl

/-! ### The result -/

/-- A result is valid exactly when NUM_BITS bits pass the checksum (R152). -/
theorem conclude_resValid_eq (s : State) :
    s.conclude.resValid = (decide (s.params.numBits ≤ s.bitCnt) && checksumOk (sampleOf s.raw)) := by
  rw [State.conclude_resValid, State.recordResult]
  split_ifs with hbits hsum
  · simp [Nat.not_le.2 hbits]
  · simp [Nat.not_lt.1 hbits, hsum]
  · simp [hsum]

theorem recordResult_of_short {s : State} (h : s.bitCnt < s.params.numBits) :
    s.recordResult = { s with resValid := false, resCause := resNOBITS } := if_pos h

theorem recordResult_of_mismatch {s : State} (h : s.params.numBits ≤ s.bitCnt) (hsum : checksumOk (sampleOf s.raw) = false) :
    s.recordResult = { s with resValid := false, resCause := resCHECKSUM } := by
  rw [State.recordResult, if_neg (Nat.not_lt.2 h), hsum]
  rfl

theorem recordResult_of_reading {s : State} (h : s.params.numBits ≤ s.bitCnt) (hsum : checksumOk (sampleOf s.raw) = true) :
    s.recordResult = { s with
      resValid := true, resCause := resNONE, resHum := humidity (sampleOf s.raw),
      resTemp := int16 (temperature (sampleOf s.raw)) } := by
  rw [State.recordResult, if_neg (Nat.not_lt.2 h), if_pos hsum]

/-! ### The selected operation runs -/

/-- The decoder in control runs what its vector selects. -/
theorem State.DecTurn.step_next {s u : State} (h : s.DecTurn) {i : Instr} (hi : decode s.decWord = .ok i)
    (hu : exec i s = .next u) : step s = .next u.advance := by
  rw [h.step_eq hi, hu]
  rfl

theorem decode_decWord_wakeLow {s : State} (h : s.decState = decWAKELOW) : decode s.decWord = .ok .decWakeLow := by
  rw [decode_decWord, h]
  rfl

theorem decode_decWord_wakeHigh {s : State} (h : s.decState = decWAKEHIGH) : decode s.decWord = .ok .decWakeHigh := by
  rw [decode_decWord, h]
  rfl

/-- In SPACE the spacing floor selects the operation (42_read_scheduler.md R188, R189), on integers as on naturals. -/
theorem decode_schWord_space {s : State} (h : s.schState = schSPACE) :
    decode s.schWord = .ok (if s.lastReadValid = true ∧ s.nowMs < s.lastReadMs + s.params.minSpacing
      then .schSpaceWait else .schSpaceGo) := by
  have hfloor : s.spacingWait = true ↔ s.lastReadValid = true ∧ s.nowMs < s.lastReadMs + s.params.minSpacing := by
    rw [spacingWait_iff]
    exact and_congr_right fun _ => by omega
  rw [decode_schWord, h]
  simp only [hfloor]
  rfl

/-! ### One sample of the EDGE phase -/

/-- The state whose BIT_CNT and RAW the edge of this tick has written: a qualifying falling edge below NUM_BITS bits takes a bit
(R149, R151), every other edge none (R150, R153, R154). -/
def State.bitsTaken (s : State) : State :=
  if s.params.preambleEdges ≤ s.edgeCnt ∧ s.pins.gpioIn = false ∧ s.bitCnt < s.params.numBits then s.takeBit else s

/-- It writes no other register. -/
theorem bitsTaken_eq (s : State) : s.bitsTaken = { s with raw := s.bitsTaken.raw, bitCnt := s.bitsTaken.bitCnt } := by
  unfold State.bitsTaken; split <;> rfl

@[simp] theorem State.bitsTaken_params (s : State) : s.bitsTaken.params = s.params := by rw [bitsTaken_eq]
@[simp] theorem State.bitsTaken_edgeCnt (s : State) : s.bitsTaken.edgeCnt = s.edgeCnt := by rw [bitsTaken_eq]
@[simp] theorem State.bitsTaken_decState (s : State) : s.bitsTaken.decState = s.decState := by rw [bitsTaken_eq]
@[simp] theorem State.bitsTaken_inputs (s : State) : s.bitsTaken.inputs = s.inputs := by rw [bitsTaken_eq]

/-- The EDGE_CAP-th unchanged sample (R148). -/
theorem State.DecTurn.step_cap {s : State} (h : s.DecTurn) (hdec : s.decState = decEDGE)
    (hlevel : s.pins.gpioIn = s.lastLevel) (hcap : s.pulseCnt.toNat + 1 = s.params.edgeCap) :
    step s = .next s.reachCap.conclude.advance :=
  h.step_next (by rw [decode_decWord_edge hdec, if_pos hlevel, if_pos hcap]) (exec_decEdgeCap s)

/-- Another unchanged sample (R147). -/
theorem State.DecTurn.step_hold {s : State} (h : s.DecTurn) (hdec : s.decState = decEDGE)
    (hlevel : s.pins.gpioIn = s.lastLevel) (hcap : s.pulseCnt.toNat + 1 ≠ s.params.edgeCap) :
    step s = .next s.countSample.advance :=
  h.step_next (by rw [decode_decWord_edge hdec, if_pos hlevel, if_neg hcap]) rfl

/-- A changed sample: whichever of the four edge operations is selected, it takes the edge (R150, R151, R153, R154). -/
theorem State.DecTurn.step_edge {s : State} (h : s.DecTurn) (hdec : s.decState = decEDGE)
    (hlevel : s.pins.gpioIn ≠ s.lastLevel) (hraw : s.raw.length = s.params.rawBytes) :
    step s = .next (s.bitsTaken.takeEdge s.pins.gpioIn).advance := by
  obtain ⟨⟨-, -, -, -, -, hnum, -, -⟩, -, -⟩ := legal_iff.1 h.configured
  have hsel := decode_decWord_edge hdec
  rw [if_neg hlevel] at hsel
  by_cases hpre : s.edgeCnt < s.params.preambleEdges
  · rw [if_pos hpre] at hsel
    rw [State.bitsTaken, if_neg fun hbit => Nat.not_lt.2 hbit.1 hpre]
    exact h.step_next hsel (exec_otherEdge (.inl ⟨rfl, rfl⟩))
  rw [if_neg hpre] at hsel
  cases hline : s.pins.gpioIn with
  | true =>
    rw [if_neg (by simp [hline])] at hsel
    rw [State.bitsTaken, if_neg (by simp [hline])]
    exact h.step_next hsel (exec_otherEdge (.inr (.inl ⟨rfl, rfl⟩)))
  | false =>
    rw [if_pos hline] at hsel
    by_cases hbits : s.bitCnt < s.params.numBits
    · rw [if_pos hbits] at hsel
      rw [State.bitsTaken, if_pos ⟨Nat.not_lt.1 hpre, hline, hbits⟩]
      exact h.step_next hsel (exec_decEdgeBit (by omega))
    · rw [if_neg hbits] at hsel
      rw [State.bitsTaken, if_neg fun hbit => hbits hbit.2.2]
      exact h.step_next hsel (exec_otherEdge (.inr (.inr ⟨rfl, rfl⟩)))

/-! ### The statements of one operation -/

/-- Settles O12: each of the eight is an operation that holds. -/
theorem holdOperationsWriteNothing : Obligations.HoldOperationsWriteNothing := fun s _ =>
  ⟨exec_of_holds rfl s, exec_of_holds rfl s, exec_of_holds rfl s, exec_of_holds rfl s, exec_of_holds rfl s,
    exec_of_holds rfl s, exec_of_holds rfl s, exec_of_holds rfl s⟩

/-- Settles O38: the floor is an integer difference, and holds as the sum of naturals it is stated with. -/
theorem spacingFloorThenAttempt : Obligations.SpacingFloorThenAttempt := by
  intro s
  refine ⟨{ s.initAttempt with schState := schATTEMPT }, rfl, rfl, fun hturn hsch => ?_⟩
  rw [hturn.step_eq (decode_schWord_space hsch)]
  split_ifs <;> rfl

/-- Settles O40: both phases are `wakeTick`, with their own length and successor. -/
theorem wakePhasesCountTheirTicks : Obligations.WakePhasesCountTheirTicks := by
  intro s
  refine ⟨rfl, fun hdec => ?_, fun hturn hdec => hturn.step_next (decode_decWord_wakeLow hdec) rfl, rfl, fun hdec => ?_,
    fun hturn hdec => hturn.step_next (decode_decWord_wakeHigh hdec) rfl⟩
  · exact ⟨gpioOe_iff.2 (.inl hdec), by rw [State.gpioOut, hdec]; rfl⟩
  · exact ⟨gpioOe_iff.2 (.inr hdec), gpioOut_iff.2 hdec⟩

/-- Settles O41: below the cap PULSE_CNT has room to count. -/
theorem unchangedSampleCounts : Obligations.UnchangedSampleCounts := fun s hp hlt =>
  ⟨s.countSample, rfl, countSample_toNat hp hlt, rfl, fun hturn hdec hlevel => hturn.step_hold hdec hlevel hlt.ne⟩

/-- Settles O42: EDGE_CAP is at most 255, so PULSE_CNT takes it whole. -/
theorem capConcludes : Obligations.CapConcludes := by
  intro s hp hcap
  have hwidth : s.reachCap.pulseCnt.toNat = s.params.edgeCap := by
    have := s.pulseCnt.isLt
    obtain ⟨⟨-, -, -, hmax, -⟩, -⟩ := legal_iff.1 hp
    exact (BitVec.toNat_ofNat _ _).trans (Nat.mod_eq_of_lt (by omega))
  exact ⟨s.reachCap, exec_decEdgeCap s, hwidth, rfl, fun hturn hdec hlevel => hturn.step_cap hdec hlevel hcap⟩

/-- Settles O43: the three results of `recordResult`, each with the registers it leaves alone. -/
theorem concludeRecordsTheResult : Obligations.ConcludeRecordsTheResult := by
  intro s
  refine ⟨fun hbits => ?_, fun r0 r1 r2 r3 r4 hbits hraw hsum => ?_, fun r0 r1 r2 r3 r4 hbits hraw hsum => ?_,
    fun _ hvalid => ?_, rfl, State.conclude_eq s⟩
  · simp [recordResult_of_short hbits]
  · have hsum' : checksumOk (sampleOf s.raw) = false := by rw [hraw, sampleOf_five, hsum]
    simp [recordResult_of_mismatch hbits hsum']
  · have hsum' : checksumOk (sampleOf s.raw) = true := by rw [hraw, sampleOf_five, hsum]
    simp [recordResult_of_reading hbits hsum', hraw, int16_temperature_toInt]
  · by_contra hchange
    rw [Classical.not_and_iff_not_or_not] at hchange
    obtain ⟨hvalid', -⟩ := recordResult_of_changed hchange
    rw [State.conclude_resValid, hvalid'] at hvalid
    cases hvalid

/-- Settles O44: BIT_CNT is below 8 × RAW_BYTES, so it selects a byte of RAW, and only that byte is written. -/
theorem qualifyingEdgeTakesABit : Obligations.QualifyingEdgeTakesABit := by
  intro s hbits hnum hlen
  have hidx : s.bitCnt / 8 < s.raw.length := by omega
  have hexec := (exec_decEdgeBit hidx).trans (congrArg _ (takeEdge_eq _ _))
  refine ⟨s.takeBit.countEdge false, _, shiftInBit s.raw[s.bitCnt / 8] (pulseBit s.params s.pulseCnt),
    List.getElem?_eq_getElem hidx, ?_, ?_, fun k hk => ?_, rfl, hexec,
    fun hturn hdec hlast hlevel hpre => hturn.step_next ?_ hexec⟩
  · show (s.raw.modify _ _)[s.bitCnt / 8]? = _
    rw [List.getElem?_modify_eq, List.getElem?_eq_getElem hidx]
    rfl
  · rw [shiftInBit_toNat, pulseBit, Bool.toNat, Bool.cond_decide]
  · exact List.getElem?_modify_ne _ _ hk.symm
  · rw [decode_decWord_edge hdec, if_neg (by simp [hlast, hlevel]), if_neg (Nat.not_lt.2 hpre), if_pos hlevel, if_pos hbits]

/-- Settles O45: the three operations are the edge bookkeeping and nothing else. -/
theorem otherEdgesOnlyCount : Obligations.OtherEdgesOnlyCount := by
  intro s i level hi
  have hexec := (exec_otherEdge hi).trans (congrArg _ (takeEdge_eq _ _))
  exact ⟨s.countEdge level, rfl, hexec, fun hturn hsel => hturn.step_next hsel hexec⟩

end Sys2Proof.Machine
end

section
/-!
SUPPORT. The bound on an attempt (40_edge_decoder.md R158): every tick of it without a reset lowers the bound or ends the attempt.
-/

namespace Sys2Proof.Machine

/-! ### The bound, by the phase of the attempt -/

theorem attemptLeft_wakeLow {s : State} (h : s.decState = decWAKELOW) : s.attemptLeft =
    (s.params.wakeLowUs - s.wakeCnt) + s.params.wakeHighUs + s.params.maxEdges * s.params.edgeCap := by
  rw [State.attemptLeft, h]
  rfl

theorem attemptLeft_wakeHigh {s : State} (h : s.decState = decWAKEHIGH) : s.attemptLeft =
    (s.params.wakeHighUs - s.wakeCnt) + s.params.maxEdges * s.params.edgeCap := by
  rw [State.attemptLeft, h]
  rfl

theorem attemptLeft_edge {s : State} (h : s.decState = decEDGE) : s.attemptLeft =
    (s.params.maxEdges - s.edgeCnt) * s.params.edgeCap - s.pulseCnt.toNat := by
  rw [State.attemptLeft, h]
  rfl

/-- From s to t the attempt ended, or the bound on the ticks it has left went down. -/
def State.Nearer (s t : State) : Prop :=
  (t.decState = decIDLE ∧ t.schState = schCHECK) ∨ (t.decState ≠ decIDLE ∧ t.attemptLeft < s.attemptLeft)

/-- A tick of WAKE_LOW: the last one leaves WAKE_HIGH whole (R143). -/
theorem State.Nearer.wakeLow {s : State} (hdec : s.decState = decWAKELOW) (hlt : s.wakeCnt < s.params.wakeLowUs) :
    s.Nearer (s.wakeTick s.params.wakeLowUs decWAKEHIGH).advance := by
  have hleft := attemptLeft_wakeLow hdec
  unfold State.wakeTick
  split
  · have hnext := attemptLeft_wakeHigh (s := ({ s with decState := decWAKEHIGH, wakeCnt := 0 } : State).advance) rfl
    simp only [State.advance_params, State.advance_wakeCnt] at hnext
    exact .inr ⟨show decWAKEHIGH ≠ decIDLE by decide, by omega⟩
  · have hnext := attemptLeft_wakeLow (s := ({ s with wakeCnt := s.wakeCnt + 1 } : State).advance) hdec
    simp only [State.advance_params, State.advance_wakeCnt] at hnext
    exact .inr ⟨show s.decState ≠ decIDLE by rw [hdec]; decide, by omega⟩

/-- A tick of WAKE_HIGH: what the last one leaves of EDGE is at most MAX_EDGES pulses (R144). -/
theorem State.Nearer.wakeHigh {s : State} (hdec : s.decState = decWAKEHIGH) (hlt : s.wakeCnt < s.params.wakeHighUs) :
    s.Nearer (s.wakeTick s.params.wakeHighUs decEDGE).advance := by
  have hleft := attemptLeft_wakeHigh hdec
  unfold State.wakeTick
  split
  · have hedges : (s.params.maxEdges - s.edgeCnt) * s.params.edgeCap ≤ s.params.maxEdges * s.params.edgeCap :=
      Nat.mul_le_mul_right _ (Nat.sub_le _ _)
    have hnext := attemptLeft_edge (s := ({ s with decState := decEDGE, wakeCnt := 0 } : State).advance) rfl
    simp only [State.advance_params, State.advance_edgeCnt] at hnext
    exact .inr ⟨show decEDGE ≠ decIDLE by decide, by omega⟩
  · have hnext := attemptLeft_wakeHigh (s := ({ s with wakeCnt := s.wakeCnt + 1 } : State).advance) hdec
    simp only [State.advance_params, State.advance_wakeCnt] at hnext
    exact .inr ⟨show s.decState ≠ decIDLE by rw [hdec]; decide, by omega⟩

/-- While edges are to come, the pulse counted is only part of the next one's EDGE_CAP samples. -/
theorem edgesLeft_mul (s : State) (h : s.edgeCnt < s.params.maxEdges) :
    (s.params.maxEdges - s.edgeCnt) * s.params.edgeCap =
      (s.params.maxEdges - (s.edgeCnt + 1)) * s.params.edgeCap + s.params.edgeCap := by
  rw [← Nat.succ_mul]
  congr 1
  omega

/-- An unchanged sample (R147). -/
theorem State.Nearer.hold {s : State} (hdec : s.decState = decEDGE) (hedges : s.edgeCnt < s.params.maxEdges)
    (hpulse : s.pulseCnt.toNat < s.params.edgeCap) (hcount : s.countSample.pulseCnt.toNat = s.pulseCnt.toNat + 1) :
    s.Nearer s.countSample.advance := by
  have hmul := edgesLeft_mul s hedges
  have hleft := attemptLeft_edge hdec
  have hnext : s.countSample.advance.attemptLeft =
      (s.params.maxEdges - s.edgeCnt) * s.params.edgeCap - s.countSample.pulseCnt.toNat :=
    attemptLeft_edge (s := s.countSample.advance) hdec
  exact .inr ⟨show s.decState ≠ decIDLE by rw [hdec]; decide, by omega⟩

/-- An edge: the last one ends the attempt, another one leaves a pulse fewer to come (R155). -/
theorem State.Nearer.takeEdge {s u : State} (hdec : s.decState = decEDGE) (hedges : s.edgeCnt < s.params.maxEdges)
    (hpulse : s.pulseCnt.toNat < s.params.edgeCap) (hu : u.decState = s.decState) (hcnt : u.edgeCnt = s.edgeCnt)
    (hparams : u.params = s.params) (level : Bool) : s.Nearer (u.takeEdge level).advance := by
  rw [takeEdge_eq]
  split
  · exact .inl ⟨rfl, rfl⟩
  · have hmul := edgesLeft_mul s hedges
    have hleft := attemptLeft_edge hdec
    have hnext : (u.countEdge level).advance.attemptLeft = (s.params.maxEdges - (s.edgeCnt + 1)) * s.params.edgeCap := by
      rw [attemptLeft_edge (s := (u.countEdge level).advance) (hu.trans hdec), ← hcnt, ← hparams]
      rfl
    exact .inr ⟨show u.decState ≠ decIDLE by rw [hu, hdec]; decide, by omega⟩

/-- In EDGE every tick without a reset comes nearer, whatever the line's level. -/
theorem State.DecTurn.nearer_edge {s t : State} (h : s.DecTurn) (hk : s.Counters) (hdec : s.decState = decEDGE)
    (ht : step s = .next t) : s.Nearer t := by
  have hactive : s.decState ≠ decIDLE := by rw [hdec]; decide
  have hedges := hk.edgesLeft hactive
  have hpulse := hk.pulseLeft hactive
  by_cases hlevel : s.pins.gpioIn = s.lastLevel
  · by_cases hcap : s.pulseCnt.toNat + 1 = s.params.edgeCap
    · rw [h.step_cap hdec hlevel hcap] at ht
      cases ht
      exact .inl ⟨rfl, rfl⟩
    · rw [h.step_hold hdec hlevel hcap] at ht
      cases ht
      exact .hold hdec hedges hpulse (countSample_toNat h.configured (by omega))
  · rw [h.step_edge hdec hlevel hk.bytes] at ht
    cases ht
    exact .takeEdge hdec hedges hpulse s.bitsTaken_decState s.bitsTaken_edgeCnt s.bitsTaken_params _

/-- Settles O47: each phase of an attempt has its own tick, and the counters leave each of them a tick to count. -/
theorem attemptsConclude : Obligations.AttemptsConclude := by
  refine ⟨fun s hdec hwake => ?_, fun s t hc hk hactive hrst ht => ?_⟩
  · rw [attemptLeft_wakeLow hdec, hwake, Nat.sub_zero]
  · have hatt := hc.schAttempt hactive
    have hturn : s.DecTurn := ⟨⟨hc.configured, hrst, hc.codes⟩, hc.dspExec (by rw [hatt]; decide), hatt⟩
    show s.Nearer t
    rcases decState_cases s.decState with hdec | hdec | hdec | hdec
    · exact absurd hdec hactive
    · rw [hturn.step_next (decode_decWord_wakeLow hdec) rfl] at ht
      cases ht
      exact .wakeLow hdec (hk.wakeLow hdec)
    · rw [hturn.step_next (decode_decWord_wakeHigh hdec) rfl] at ht
      cases ht
      exact .wakeHigh hdec (hk.wakeHigh hdec)
    · exact hturn.nearer_edge hk hdec ht

end Sys2Proof.Machine
end

section
/-!
SUPPORT. The bits and bytes of a list of edges (40_edge_decoder.md R149 to R154, R161; 20_memory.md R85), as one more edge extends
them.
-/

namespace Sys2Proof.Machine

/-- The bits the qualifying falling edges have, past NUM_BITS too (R149, R151). -/
def allBitsOf (p : Params) (edges : List EdgeSeen) : List Bool :=
  ((edges.drop p.preambleEdges).filter fun e => !e.level).map fun e => decide (p.pulseThreshold < e.width)

theorem bitsOf_eq (p : Params) (edges : List EdgeSeen) : bitsOf p edges = (allBitsOf p edges).take p.numBits := rfl

theorem bitsOf_length_le (p : Params) (edges : List EdgeSeen) : (bitsOf p edges).length ≤ p.numBits := List.length_take_le _ _

/-- A falling edge past the preamble has a bit, and no other edge has one (R149, R150, R153). -/
theorem allBitsOf_append_singleton (p : Params) (edges : List EdgeSeen) (e : EdgeSeen) :
    allBitsOf p (edges ++ [e]) = allBitsOf p edges ++
      if p.preambleEdges ≤ edges.length ∧ e.level = false then [decide (p.pulseThreshold < e.width)] else [] := by
  rw [allBitsOf, List.drop_append, List.filter_append, List.map_append, ← allBitsOf]
  congr 1
  by_cases hpre : p.preambleEdges ≤ edges.length
  · rw [Nat.sub_eq_zero_of_le hpre]
    cases hlevel : e.level <;> simp [hpre, hlevel]
  · have hdrop : [e].drop (p.preambleEdges - edges.length) = [] := List.drop_eq_nil_of_le (by simp; omega)
    simp [hdrop, hpre]

/-- A qualifying edge adds its bit while fewer than NUM_BITS are taken; no other edge adds one (R151, R154). -/
theorem bitsOf_append_singleton (p : Params) (edges : List EdgeSeen) (e : EdgeSeen) :
    bitsOf p (edges ++ [e]) = bitsOf p edges ++
      if p.preambleEdges ≤ edges.length ∧ e.level = false ∧ (bitsOf p edges).length < p.numBits
      then [decide (p.pulseThreshold < e.width)] else [] := by
  have hroom : (bitsOf p edges).length < p.numBits ↔ 0 < p.numBits - (allBitsOf p edges).length := by
    rw [bitsOf_eq, List.length_take]
    omega
  rw [bitsOf_eq, allBitsOf_append_singleton, List.take_append, ← bitsOf_eq]
  congr 1
  by_cases hbit : p.preambleEdges ≤ edges.length ∧ e.level = false
  · obtain ⟨hpre, hlevel⟩ := hbit
    simp only [hpre, hlevel, hroom, true_and, if_true]
    split
    · exact List.take_of_length_le (by simp; omega)
    · rw [show p.numBits - (allBitsOf p edges).length = 0 by omega, List.take_zero]
  · rw [if_neg hbit, if_neg fun h => hbit ⟨h.1, h.2.1⟩, List.take_nil]

theorem byteOfBits_append_singleton (bits : List Bool) (b : Bool) :
    byteOfBits (bits ++ [b]) = shiftInBit (byteOfBits bits) b := by
  apply BitVec.eq_of_toNat_eq
  rw [shiftInBit_toNat, byteOfBits, byteOfBits, List.foldl_append]
  simp only [List.foldl_cons, List.foldl_nil, BitVec.toNat_ofNat]
  omega

/-- The bit after the last goes at the end of the eight it falls in. -/
theorem byteBits_append_singleton (bits : List Bool) (b : Bool) (k : Nat) :
    ((bits ++ [b]).drop (8 * k)).take 8 = (bits.drop (8 * k)).take 8 ++ if bits.length / 8 = k then [b] else [] := by
  rw [List.drop_append, List.take_append]
  congr 1
  rw [List.length_drop]
  split
  · rw [show 8 * k - bits.length = 0 by omega, List.drop_zero]
    exact List.take_of_length_le (by simp; omega)
  · rcases Nat.lt_or_ge k (bits.length / 8) with hlt | hge
    · rw [show 8 - (bits.length - 8 * k) = 0 by omega, List.take_zero]
    · rw [List.drop_eq_nil_of_le (by simp; omega), List.take_nil]

theorem rawOfBits_length (p : Params) (bits : List Bool) : (rawOfBits p bits).length = p.rawBytes := by simp [rawOfBits]

/-- One more bit is shifted into the byte its number selects (R85, R151). -/
theorem rawOfBits_append_singleton (p : Params) (bits : List Bool) (b : Bool) :
    rawOfBits p (bits ++ [b]) = (rawOfBits p bits).modify (bits.length / 8) (shiftInBit · b) := by
  refine List.ext_getElem (by simp [rawOfBits_length]) fun k _ _ => ?_
  rw [List.getElem_modify]
  simp only [rawOfBits, List.getElem_map, List.getElem_range, byteBits_append_singleton]
  split
  · exact byteOfBits_append_singleton _ b
  · rw [List.append_nil]

/-- RAW is cleared before the first edge (R142). -/
theorem rawOfBits_nil (p : Params) : rawOfBits p [] = List.replicate p.rawBytes 0#8 := by
  simp [rawOfBits, byteOfBits, List.map_const']

theorem bitsOf_nil (p : Params) : bitsOf p [] = [] := by simp [bitsOf]

end Sys2Proof.Machine
end

section
/-!
SUPPORT. The EDGE phase as R161's function of the samples (40_edge_decoder.md R161): each tick of the phase is one step of the
sampling loop.
-/

namespace Sys2Proof.Machine

/-! ### The state in the middle of the phase -/

/-- EDGE_CNT, BIT_CNT and RAW are those of the edges (R149 to R151). -/
structure State.Records (s : State) (edges : List EdgeSeen) : Prop where
  count : s.edgeCnt = edges.length
  bits : s.bitCnt = (bitsOf s.params edges).length
  raw : s.raw = rawOfBits s.params (bitsOf s.params edges)

/-- The decoder is in EDGE after these edges, and the phase goes on. -/
structure State.Sampling (s : State) (edges : List EdgeSeen) : Prop extends s.Records edges where
  configured : s.configured
  codes : s.codesLegal = true
  dsp : s.dspState = dspEXEC
  sch : s.schState = schATTEMPT
  dec : s.decState = decEDGE
  width : s.pulseCnt.toNat < s.params.edgeCap
  capHit : s.capHit = false

section

variable {s : State} {edges : List EdgeSeen}

theorem State.Sampling.decTurn (h : s.Sampling edges) (hrst : s.pins.rst = false) : s.DecTurn :=
  ⟨⟨h.configured, hrst, h.codes⟩, h.dsp, h.sch⟩

/-- An unchanged sample is no edge (R147). -/
theorem State.Sampling.countSample (h : s.Sampling edges) (hcap : s.pulseCnt.toNat + 1 ≠ s.params.edgeCap) :
    s.countSample.advance.Sampling edges := by
  have hlt : s.pulseCnt.toNat + 1 < s.params.edgeCap := Nat.lt_of_le_of_ne h.width hcap
  exact { h with width := (countSample_toNat h.configured hlt).trans_lt hlt }

/-- An edge taken is recorded as one more of the list, with the bit it adds (R149 to R154). -/
theorem State.Records.countEdge (h : s.Records edges) :
    (s.bitsTaken.countEdge s.pins.gpioIn).Records (edges ++ [⟨s.pins.gpioIn, s.pulseCnt.toNat⟩]) := by
  have hcount : s.edgeCnt + 1 = (edges ++ [(⟨s.pins.gpioIn, s.pulseCnt.toNat⟩ : EdgeSeen)]).length := by simp [h.count]
  have hbits := bitsOf_append_singleton s.params edges ⟨s.pins.gpioIn, s.pulseCnt.toNat⟩
  simp only [← h.count, ← h.bits] at hbits
  unfold State.bitsTaken
  split
  · rename_i htakes
    rw [if_pos htakes] at hbits
    have hraw := rawOfBits_append_singleton s.params (bitsOf s.params edges) (pulseBit s.params s.pulseCnt)
    rw [← h.raw, ← h.bits] at hraw
    have hlen : s.bitCnt + 1 = (bitsOf s.params (edges ++ [⟨s.pins.gpioIn, s.pulseCnt.toNat⟩])).length := by
      rw [hbits, List.length_append, ← h.bits]; rfl
    exact ⟨hcount, hlen, ((congrArg _ hbits).trans hraw).symm⟩
  · rename_i htakes
    rw [if_neg htakes, List.append_nil] at hbits
    exact ⟨hcount, h.bits.trans (congrArg List.length hbits).symm, h.raw.trans (congrArg _ hbits).symm⟩

/-- An edge that is not the last one leaves the phase going on, with a new width (R155). -/
theorem State.Sampling.countEdge (h : s.Sampling edges) :
    (s.bitsTaken.countEdge s.pins.gpioIn).advance.Sampling (edges ++ [⟨s.pins.gpioIn, s.pulseCnt.toNat⟩]) := by
  have hrec := h.toRecords.countEdge
  have hpos : 0 < s.params.edgeCap := Nat.zero_lt_of_lt h.width
  rw [bitsTaken_eq] at hrec ⊢
  exact { hrec, h with width := hpos }

end

/-! ### The end of the phase -/

/-- The attempt has concluded in t on these edges, under the parameters p (R152, R161). -/
structure State.Ended (t : State) (p : Params) (edges : List EdgeSeen) (how : PhaseEnd) : Prop where
  sch : t.schState = schCHECK
  dec : t.decState = decIDLE
  dsp : t.dspState = dspEXEC
  count : t.edgeCnt = edges.length
  bits : t.bitCnt = (bitsOf p edges).length
  raw : t.raw = rawOfBits p (bitsOf p edges)
  capHit : t.capHit = decide (how = .cap)
  valid : t.resValid = (decide ((bitsOf p edges).length = p.numBits) && checksumOk (sampleOf (rawOfBits p (bitsOf p edges))))
  read : t.lastReadValid = true

/-- `conclude` on the edges recorded, CAP_HIT telling which way the phase ended. -/
theorem State.Records.conclude {s : State} {edges : List EdgeSeen} {how : PhaseEnd} (h : s.Records edges)
    (hdsp : s.dspState = dspEXEC) (hcap : s.capHit = decide (how = .cap)) :
    s.conclude.advance.Ended s.params edges how where
  sch := rfl
  dec := rfl
  dsp := (State.conclude_dspState s).trans hdsp
  count := (State.conclude_edgeCnt s).trans h.count
  bits := (State.conclude_bitCnt s).trans h.bits
  raw := (State.conclude_raw s).trans h.raw
  capHit := (State.conclude_capHit s).trans hcap
  valid := by
    have hall : s.params.numBits ≤ (bitsOf s.params edges).length ↔ (bitsOf s.params edges).length = s.params.numBits :=
      ⟨(bitsOf_length_le _ _).antisymm, fun e => e.ge⟩
    rw [State.advance_resValid, conclude_resValid_eq, h.raw, h.bits, decide_eq_decide.2 hall]
  read := rfl

/-- The cap (R148). -/
theorem State.Sampling.reachCap {s : State} {edges : List EdgeSeen} (h : s.Sampling edges) :
    s.reachCap.conclude.advance.Ended s.params edges .cap :=
  have hrec : s.reachCap.Records edges := { h with }
  hrec.conclude h.dsp rfl

/-- The MAX_EDGES-th edge (R155). -/
theorem State.Sampling.lastEdge {s : State} {edges : List EdgeSeen} (h : s.Sampling edges) :
    (s.bitsTaken.countEdge s.pins.gpioIn).conclude.advance.Ended s.params
      (edges ++ [⟨s.pins.gpioIn, s.pulseCnt.toNat⟩]) .last := by
  have hrec := h.toRecords.countEdge
  rw [bitsTaken_eq] at hrec ⊢
  exact hrec.conclude h.dsp h.capHit

/-! ### The loop -/

theorem steps_succ {s u : State} (n : Nat) (h : step s = .next u) : steps (n + 1) s = steps n u := by
  show (match step s with | .next t => steps n t | _ => none) = steps n u
  rw [h]

theorem pins_of_inputs {s : State} {i : Inputs} {l : List Inputs} (h : s.inputs = i :: l) : s.pins = i := by
  rw [State.pins, h]

/-- From the middle of the phase the run ends where the sampling loop does: by the cap, by the last edge, or after the samples to
come of a loop with one more sample of width, or one more edge. -/
theorem State.Sampling.steps_ended {rest : List Inputs} {final : List EdgeSeen} {how : PhaseEnd} (l : List Inputs) :
    ∀ {s : State} {edges : List EdgeSeen}, s.Sampling edges → s.inputs = l ++ rest → (∀ i ∈ l, i.rst = false) →
      edgePhaseFrom s.params s.lastLevel s.pulseCnt.toNat edges (l.map Inputs.gpioIn) = some (final, how, []) →
      ∃ t, steps l.length s = some t ∧ t.Ended s.params final how ∧ t.inputs = rest := by
  induction l with
  | nil => exact fun _ _ _ hloop => nomatch hloop
  | cons i l ih =>
    intro s edges h hin hrst hloop
    have hpins : s.pins = i := pins_of_inputs hin
    have htail : s.inputs.tail = l ++ rest := by rw [hin]; rfl
    have hturn := h.decTurn (hpins ▸ hrst i List.mem_cons_self)
    have hrst' : ∀ j ∈ l, j.rst = false := fun j hj => hrst j (List.mem_cons_of_mem i hj)
    rw [List.map_cons, ← hpins, edgePhaseFrom] at hloop
    split at hloop
    · rename_i hlevel
      split at hloop
      · rename_i hcap
        obtain ⟨rfl, rfl, rfl⟩ : edges = final ∧ PhaseEnd.cap = how ∧ l = [] := by simpa using hloop
        exact ⟨_, steps_succ 0 (hturn.step_cap h.dec hlevel hcap), h.reachCap,
          (congrArg List.tail (State.conclude_inputs _)).trans htail⟩
      · rename_i hcap
        rw [← countSample_toNat h.configured (Nat.lt_of_le_of_ne h.width hcap)] at hloop
        rw [List.length_cons, steps_succ _ (hturn.step_hold h.dec hlevel hcap)]
        exact ih (h.countSample hcap) htail hrst' hloop
    · rename_i hlevel
      have hstep := hturn.step_edge h.dec hlevel (by rw [h.raw, rawOfBits_length])
      have hin' : s.bitsTaken.inputs.tail = l ++ rest := s.bitsTaken_inputs ▸ htail
      rw [takeEdge_eq, s.bitsTaken_edgeCnt, s.bitsTaken_params, h.count] at hstep
      split at hloop
      · rename_i hlast
        obtain ⟨rfl, rfl, rfl⟩ : edges ++ [⟨s.pins.gpioIn, s.pulseCnt.toNat⟩] = final ∧ PhaseEnd.last = how ∧ l = [] := by
          simpa using hloop
        rw [if_pos hlast] at hstep
        exact ⟨_, steps_succ 0 hstep, h.lastEdge, (congrArg List.tail (State.conclude_inputs _)).trans hin'⟩
      · rename_i hlast
        rw [if_neg hlast] at hstep
        rw [List.length_cons, steps_succ _ hstep]
        obtain ⟨t, hsteps, hend, hinputs⟩ := ih h.countEdge hin' hrst' (by rw [bitsTaken_eq]; exact hloop)
        exact ⟨t, hsteps, s.bitsTaken_params ▸ hend, hinputs⟩

/-- Settles O46: the phase starts with no edge seen, and each tick of it is one round of the sampling loop. -/
theorem edgePhaseIsTheSamplingLoop : Obligations.EdgePhaseIsTheSamplingLoop := by
  intro s l rest edges how hp hcodes hdsp hsch hdec hlevel hpulse hedge hbit hraw hcap hin hrst hloop
  have hstart : s.Sampling [] := by
    obtain ⟨⟨-, -, hpos, -⟩, -⟩ := legal_iff.1 hp
    exact {
      count := hedge
      bits := by rw [bitsOf_nil, hbit]; rfl
      raw := by rw [bitsOf_nil, rawOfBits_nil, hraw]
      configured := hp, codes := hcodes, dsp := hdsp, sch := hsch, dec := hdec
      width := by rw [hpulse]; exact hpos
      capHit := hcap }
  rw [edgePhase, ← hlevel, ← show s.pulseCnt.toNat = 0 by rw [hpulse]; rfl] at hloop
  obtain ⟨t, hsteps, hend, hinputs⟩ := hstart.steps_ended l hin hrst hloop
  exact ⟨t, hsteps, hend.sch, hend.dec, hend.dsp, hend.count, hend.bits, hend.raw, hend.capHit, hend.valid, hend.read, hinputs⟩

end Sys2Proof.Machine
end

section
/-!
SUPPORT. The validator's arithmetic (41_validator.md R171 to R174) as numbers: the checksum's sum and the sign-magnitude temperature.
-/

namespace Sys2Proof.Machine

/-! ### The checksum -/

/-- R171 truncates the unbounded sum once; 8-bit addition truncates after each byte, to the same value. -/
theorem checksumOk_iff (r : RawSample) : checksumOk r = true ↔ r.r4 = r.r0 + r.r1 + r.r2 + r.r3 := by
  rw [checksumOk, decide_eq_true_iff, BitVec.toNat_eq]
  simp only [BitVec.toNat_add, Nat.mod_add_mod, Nat.reducePow]

/-! ### The conversion -/

theorem humidity_toNat (r : RawSample) : (humidity r).toNat = r.r0.toNat * 256 + r.r1.toNat := be16_toNat r.r0 r.r1

/-- The mask 0x7F takes the byte modulo 128 (R173). -/
theorem tempMagnitude_eq (r : RawSample) : tempMagnitude r = r.r2.toNat % 128 * 256 + r.r3.toNat := by
  have hmask : (r.r2 &&& 0x7F#8).toNat = r.r2.toNat % 128 := by
    rw [BitVec.toNat_and]
    exact Nat.and_two_pow_sub_one_eq_mod r.r2.toNat 7
  rw [tempMagnitude, be16_toNat, hmask]

/-- Bit 7 of r2 is set from 128 up, so the sign is read off its number (R174). -/
theorem temperature_eq (r : RawSample) :
    temperature r = if 128 ≤ r.r2.toNat then -(tempMagnitude r : Int) else (tempMagnitude r : Int) := by
  have hsign : r.r2.getLsbD 7 = decide (128 ≤ r.r2.toNat) :=
    (BitVec.msb_eq_getLsbD_last r.r2).symm.trans (BitVec.msb_eq_decide r.r2)
  simp only [temperature, hsign, decide_eq_true_iff]

/-! ### The statements -/

/-- Settles O35: the sum truncated to its low 8 bits is the sum of bytes. -/
theorem oneChecksumBytePasses : Obligations.OneChecksumBytePasses := checksumOk_iff

/-- Settles O36: the bytes read as numbers; the magnitude is below 32768, so the 16-bit pattern holds the temperature. -/
theorem readingConvertsTheBytes : Obligations.ReadingConvertsTheBytes := by
  intro r
  obtain ⟨hlow, hhigh⟩ := temperature_bounds r
  exact ⟨humidity_toNat r, tempMagnitude_eq r, temperature_eq r, hlow, hhigh, int16_temperature_toInt r⟩

end Sys2Proof.Machine
end

section
/-!
SUPPORT. The read scheduler's START and CHECK (42_read_scheduler.md R187, R191 to R193): the deadline a call takes and the
operation its result selects.
-/

namespace Sys2Proof.Machine

/-- The scheduler in control runs what its vector selects. -/
theorem State.SchTurn.step_next {s u : State} (h : s.SchTurn) {i : Instr} (hi : decode s.schWord = .ok i)
    (hu : exec i s = .next u) : step s = .next u.advance := by
  rw [h.step_eq hi, hu]
  rfl

/-! ### START -/

/-- The state START leaves (R187). -/
def State.takeDeadline (s : State) : State :=
  { s with deadlineMs := fit .deadlineMs s.params.timeW (s.nowMs + s.timeoutMs) s.draws, schState := schSPACE }

theorem exec_schStart (s : State) : exec .schStart s = .next s.takeDeadline := rfl

theorem takeDeadline_deadlineMs {s : State} (h : s.timeUs / 1000 + s.timeoutMs < 2 ^ s.params.timeW) :
    s.takeDeadline.deadlineMs = s.timeUs / 1000 + s.timeoutMs := fit_of_lt s.draws h

/-- R200: with 64 bits of time, a thousandth of TIME_US leaves room for the longest timeout. -/
theorem State.Counters.deadline_fits {s : State} (h : s.Counters) (hp : s.params = Params.default) :
    s.timeUs / 1000 + s.timeoutMs < 2 ^ s.params.timeW := by
  have htime : s.timeUs < 2 ^ Params.default.timeW := hp ▸ h.time
  have htimeout : s.timeoutMs ≤ Params.default.timeoutMax := hp ▸ h.timeout
  simp only [hp, Params.default] at htime htimeout ⊢
  omega

theorem decode_schWord_start {s : State} (h : s.schState = schSTART) : decode s.schWord = .ok .schStart := by
  rw [decode_schWord, h]
  rfl

/-! ### CHECK -/

/-- In CHECK the validity of the result selects before the deadline does (R191 to R193, R195). -/
theorem decode_schWord_check {s : State} (h : s.schState = schCHECK) :
    decode s.schWord = .ok (if s.resValid = true then .schCheckOk
      else if s.deadlineMs ≤ s.nowMs then .schCheckTimeout else .schCheckRetry) := by
  rw [decode_schWord, h]
  simp only [deadlinePassed_iff]
  rfl

/-! ### The statements -/

/-- Settles O37: START writes the sum itself wherever it fits, and R200 makes it fit under the defaults. -/
theorem startTakesTheDeadline : Obligations.StartTakesTheDeadline := fun s =>
  ⟨s.takeDeadline, exec_schStart s, takeDeadline_deadlineMs, fun hp hc => takeDeadline_deadlineMs (hc.deadline_fits hp), rfl,
    fun hturn hsch => hturn.step_next (decode_schWord_start hsch) (exec_schStart s)⟩

/-- Settles O39: the tick in CHECK runs the one of the three operations that the result and the deadline select. -/
theorem checkAnswersOrRetries : Obligations.CheckAnswersOrRetries := by
  intro s
  refine ⟨rfl, rfl, rfl, fun hturn hsch => hturn.step_next (decode_schWord_check hsch) ?_⟩
  split_ifs with hvalid hpassed
  · exact (rfl : execSchCheckOk s = _)
  · exact (rfl : execSchCheckTimeout s = _)
  · exact (rfl : execSchCheckRetry s = _)

end Sys2Proof.Machine
end

section
/-!
SUPPORT. The framer's operations one tick at a time (43_framer.md R211 to R221): which of them an RX state and TX select, what each
writes, and the statements that follow from one operation.
-/

namespace Sys2Proof.Machine

/-! ### The selected operation -/

/-- The state code a field nn of FR.RX_ERR, FR.RX_EOF and FR.RX_STALL stands for (30_encoding.md R101). -/
def rxCode : RxState → BitVec 4
  | .hdr0 => dspRXHDR0
  | .hdr1 => dspRXHDR1
  | .pay => dspRXPAY

/-- The operation that accepts a request byte in an RX state (R211 to R213). -/
def rxTake : RxState → Instr
  | .hdr0 => .frRxHdr0
  | .hdr1 => .frRxHdr1
  | .pay => .frRxPay

theorem inReady_iff_rxCode {s : State} : s.inReady = true ↔ ∃ nn, s.dspState = rxCode nn := by
  rw [inReady_iff]
  constructor
  · rintro (h | h | h)
    · exact ⟨.hdr0, h⟩
    · exact ⟨.hdr1, h⟩
    · exact ⟨.pay, h⟩
  · rintro ⟨nn, h⟩
    cases nn with
    | hdr0 => exact .inl h
    | hdr1 => exact .inr (.inl h)
    | pay => exact .inr (.inr h)

/-- The four operations of an RX state, by R226's priority. -/
theorem decode_dspWord_rx {s : State} {nn : RxState} (h : s.dspState = rxCode nn) :
    decode s.dspWord = .ok (if s.pins.inErr then .frRxErr nn else if s.pins.inValid then rxTake nn
      else if s.pins.inEof then .frRxEof nn else .frRxStall nn) := by
  rw [decode_dspWord, h]
  cases nn <;> rfl

/-- The three operations of TX, by R226's priority. -/
theorem decode_dspWord_tx {s : State} (h : s.dspState = dspTX) :
    decode s.dspWord = .ok (if s.pins.outErr then .frTxErr else if s.pins.outReady then .frTxByte else .frTxStall) := by
  rw [decode_dspWord, h]
  rfl

section

variable {s u : State} {nn : RxState} (h : s.DspTurn)

include h

/-- The dispatcher or the framer in control runs what its vector selects. -/
theorem State.DspTurn.step_next {i : Instr} (hi : decode s.dspWord = .ok i) (hu : exec i s = .next u) :
    step s = .next u.advance := by
  rw [h.step_eq hi, hu]
  rfl

/-- An error of the request stream goes before everything else it offers (R215). -/
theorem State.DspTurn.step_rxErr (hrx : s.inReady = true) (herr : s.pins.inErr = true) :
    step s = .next (s.raiseFault .ioRx).advance := by
  obtain ⟨nn, hcode⟩ := inReady_iff_rxCode.1 hrx
  exact h.step_next (i := .frRxErr nn) (by rw [decode_dspWord_rx hcode, if_pos herr]) rfl

/-- A byte offered without an error is accepted (R211 to R213). -/
theorem State.DspTurn.step_rxTake (hcode : s.dspState = rxCode nn) (herr : s.pins.inErr = false)
    (hvalid : s.pins.inValid = true) (hu : exec (rxTake nn) s = .next u) : step s = .next u.advance :=
  h.step_next (by rw [decode_dspWord_rx hcode, herr, hvalid]; rfl) hu

/-- The end of the stream is seen where there is neither an error nor a byte (R214). -/
theorem State.DspTurn.step_rxEof (hrx : s.inReady = true) (herr : s.pins.inErr = false) (hvalid : s.pins.inValid = false)
    (heof : s.pins.inEof = true) : step s = .next s.stopClean.advance := by
  obtain ⟨nn, hcode⟩ := inReady_iff_rxCode.1 hrx
  exact h.step_next (i := .frRxEof nn) (by rw [decode_dspWord_rx hcode, herr, hvalid, heof]; rfl) rfl

/-- A tick that offers nothing holds (R216). -/
theorem State.DspTurn.step_rxStall (hrx : s.inReady = true) (herr : s.pins.inErr = false) (hvalid : s.pins.inValid = false)
    (heof : s.pins.inEof = false) : step s = .next s.advance := by
  obtain ⟨nn, hcode⟩ := inReady_iff_rxCode.1 hrx
  exact h.step_next (i := .frRxStall nn) (by rw [decode_dspWord_rx hcode, herr, hvalid, heof]; rfl) rfl

/-- An error of the response stream goes before the byte (R221). -/
theorem State.DspTurn.step_txErr (hdsp : s.dspState = dspTX) (herr : s.pins.outErr = true) :
    step s = .next (s.raiseFault .ioTx).advance :=
  h.step_next (by rw [decode_dspWord_tx hdsp, if_pos herr]) rfl

/-- The byte TX_CNT selects is emitted when the stream takes it (R219). -/
theorem State.DspTurn.step_txByte {b : Byte} (hdsp : s.dspState = dspTX) (herr : s.pins.outErr = false)
    (hready : s.pins.outReady = true) (hb : s.txByte = .ok b) : step s = .next (s.emitByte b).advance :=
  h.step_next (frTxByte_selected hdsp herr hready) (exec_frTxByte hb)

/-- A tick in which the response stream takes nothing holds (R220). -/
theorem State.DspTurn.step_txStall (hdsp : s.dspState = dspTX) (herr : s.pins.outErr = false)
    (hready : s.pins.outReady = false) : step s = .next s.advance :=
  h.step_next (i := .frTxStall) (by rw [decode_dspWord_tx hdsp, herr, hready]; rfl) rfl

end

/-! ### The state a request byte leaves -/

/-- The state FR.RX_HDR0 leaves (R211). -/
def State.takeFirstPrefixByte (s : State) : State :=
  if s.params.lenBytes ≤ 1 then s.acceptByte.startPayload s.highPrefix else s.keepPrefix s.highPrefix 0

/-- The state FR.RX_HDR1 leaves (R212). -/
def State.takeNextPrefixByte (s : State) : State :=
  if s.prefixLeftAfter = 0 then s.acceptByte.startPayload s.nextPrefix
  else { s.acceptByte with frLen := s.nextPrefix, hdrCnt := s.hdrCnt + 1 }

theorem exec_frRxHdr0 (s : State) : exec .frRxHdr0 s = .next s.takeFirstPrefixByte := execFrRxHdr0_eq s

theorem exec_frRxHdr1 (s : State) : exec .frRxHdr1 s = .next s.takeNextPrefixByte := rfl

theorem exec_frRxPay {s : State} (h : s.frCnt < s.params.payloadMax) :
    exec .frRxPay s = .next (s.putPayloadByte (s.rxBuf.write s.frCnt s.pins.inByte)) :=
  orFault_next.2 ⟨_, memWrite_ok.2 ⟨h, rfl⟩, rfl⟩

theorem takeFirstPrefixByte_frLen (s : State) : s.takeFirstPrefixByte.frLen = s.highPrefix := by
  unfold State.takeFirstPrefixByte
  split <;> rfl

theorem takeNextPrefixByte_frLen (s : State) : s.takeNextPrefixByte.frLen = s.nextPrefix := by
  unfold State.takeNextPrefixByte
  split <;> rfl

/-- A byte of a number replaced: the part above it keeps its value. -/
theorem setByte_div_succ (n j : Nat) (b : Byte) : setByte n j b / 256 ^ (j + 1) = n / 256 ^ (j + 1) := by
  have hb := b.isLt
  rw [Nat.pow_succ, ← Nat.div_div_eq_div_mul, setByte_div, Nat.pow_succ]
  omega

/-- A byte of a number replaced: the byte itself. -/
theorem setByte_div_mod (n j : Nat) (b : Byte) : setByte n j b / 256 ^ j % 256 = b.toNat := by
  have hb := b.isLt
  rw [setByte_div]
  omega

/-! ### The statements of one operation -/

/-- Settles O14: an error is the first operation of its state's priority, and the fault writes its three registers. -/
theorem streamErrorsTakeTheFault : Obligations.StreamErrorsTakeTheFault := fun _ _ =>
  ⟨rfl, rfl, fun hturn => hturn.step_rxErr, fun hturn => hturn.step_txErr⟩

/-- Settles O15: FR.RX_EOF is the clean stop, selected where no error and no byte goes before it. -/
theorem endOfStreamStopsCleanly : Obligations.EndOfStreamStopsCleanly := fun _ _ =>
  ⟨rfl, fun hturn => hturn.step_rxEof⟩

/-- Settles O17: FR_LEN takes the byte above its rest, and a length of one byte is complete with it. -/
theorem headerHighByte : Obligations.HeaderHighByte := by
  intro s
  have hlen := takeFirstPrefixByte_frLen s
  refine ⟨s.takeFirstPrefixByte, exec_frRxHdr0 s, fun h2 => ?_, hlen, fun hmore => ?_, fun hone => ?_,
    fun hturn hcode herr hvalid => hturn.step_rxTake (nn := .hdr0) hcode herr hvalid (exec_frRxHdr0 s)⟩
  · rw [hlen, State.highPrefix, h2]
    rfl
  · rw [hlen, State.takeFirstPrefixByte, if_neg (by omega)]
    rfl
  · rw [hlen, State.takeFirstPrefixByte, if_pos hone]
    rfl

/-- Settles O18: the byte replaces the one of FR_LEN that the bytes still to come leave it, the lowest where none is. -/
theorem headerLowByte : Obligations.HeaderLowByte := by
  intro s
  have hlen := takeNextPrefixByte_frLen s
  refine ⟨s.takeNextPrefixByte, exec_frRxHdr1 s, fun hlast => ?_, fun j hmore => ?_,
    fun hturn hcode herr hvalid => hturn.step_rxTake (nn := .hdr1) hcode herr hvalid (exec_frRxHdr1 s)⟩
  · have hleft : s.prefixLeftAfter = 0 := by unfold State.prefixLeftAfter; omega
    refine ⟨?_, ?_⟩
    · rw [hlen, State.nextPrefix, hleft, setByte_zero]
    · rw [hlen, State.takeNextPrefixByte, if_pos hleft]
      rfl
  · have hleft : s.prefixLeftAfter = j + 1 := by unfold State.prefixLeftAfter; omega
    have hnext : s.nextPrefix = setByte s.frLen (j + 1) s.pins.inByte := by rw [State.nextPrefix, hleft]
    rw [hlen, hnext]
    refine ⟨setByte_div_succ _ _ _, setByte_div_mod _ _ _, setByte_mod _ _ _, ?_⟩
    rw [State.takeNextPrefixByte, if_neg (by omega), hnext]
    rfl

/-- Settles O19: the byte is written at FR_CNT, which lies inside RX_BUF. -/
theorem payloadByte : Obligations.PayloadByte := fun _ hcnt =>
  ⟨_, exec_frRxPay hcnt, Memory.read_write_same _ _ _, fun _ ha => Memory.read_write_other _ _ ha, rfl,
    fun hturn hcode herr hvalid => hturn.step_rxTake (nn := .pay) hcode herr hvalid (exec_frRxPay hcnt)⟩

end Sys2Proof.Machine
end

section
/-!
SUPPORT. Runs of several ticks (10_state.md R36): what every step leaves of the clock and of the inputs to come, and a run in which
the framer waits for its stream in some ticks and moves a byte in the others (43_framer.md R218, R222).
-/

namespace Sys2Proof.Machine

/-! ### The clock and the inputs to come -/

/-- A step uses up its tick's inputs. -/
theorem step_inputs {s t : State} (h : step s = .next t) : t.inputs = s.inputs.tail := by
  obtain ⟨-, ⟨-, rfl⟩ | ⟨-, htick⟩⟩ := Machine.step_next h
  · rfl
  · obtain ⟨-, d, c, e, a, b, x, -, -, -, -, -, -, -, rfl⟩ := tick_next htick
    rfl

theorem step_draws {s t : State} (h : step s = .next t) : t.draws = s.draws + 1 := by
  obtain ⟨-, ⟨-, rfl⟩ | ⟨-, htick⟩⟩ := Machine.step_next h
  · rfl
  · obtain ⟨-, d, c, e, a, b, x, -, -, -, -, -, -, -, rfl⟩ := tick_next htick
    rfl

/-- A tick without a reset counts TIME_US where the sum fits (R40; log 8). -/
theorem step_timeUs {s t : State} (h : step s = .next t) (hrst : s.pins.rst = false)
    (hfit : s.timeUs + 1 < 2 ^ s.params.timeW) : t.timeUs = s.timeUs + 1 := by
  obtain ⟨-, ⟨hrst', -⟩ | ⟨-, htick⟩⟩ := Machine.step_next h
  · rw [hrst] at hrst'; cases hrst'
  · obtain ⟨-, d, c, e, a, b, x, -, -, -, -, -, -, -, rfl⟩ := tick_next htick
    exact fit_of_lt _ hfit

/-- A run of one tick more, from its first step. -/
theorem steps_succ_eq_some {s t : State} {n : Nat} :
    steps (n + 1) s = some t ↔ ∃ u, step s = .next u ∧ steps n u = some t := by
  constructor
  · intro h
    rw [steps] at h
    split at h
    · rename_i u hu; exact ⟨u, hu, h⟩
    · cases h
  · rintro ⟨u, hu, h⟩
    rw [steps_succ n hu, h]

theorem steps_inputs {n : Nat} : ∀ {s t : State}, steps n s = some t → t.inputs = s.inputs.drop n := by
  induction n with
  | zero => intro s t h; cases h; rfl
  | succ n ih =>
    intro s t h
    obtain ⟨u, hu, h⟩ := steps_succ_eq_some.1 h
    rw [ih h, step_inputs hu, List.drop_tail]

theorem steps_draws {n : Nat} : ∀ {s t : State}, steps n s = some t → t.draws = s.draws + n := by
  induction n with
  | zero => intro s t h; cases h; rfl
  | succ n ih =>
    intro s t h
    obtain ⟨u, hu, h⟩ := steps_succ_eq_some.1 h
    rw [ih h, step_draws hu, Nat.add_assoc, Nat.add_comm 1]

/-- A run without a reset counts its ticks in TIME_US where the sum fits. -/
theorem steps_timeUs {l rest : List Inputs} : ∀ {s t : State}, steps l.length s = some t → s.inputs = l ++ rest →
    (∀ j ∈ l, j.rst = false) → s.timeUs + l.length < 2 ^ s.params.timeW → t.timeUs = s.timeUs + l.length := by
  induction l with
  | nil => intro s t h _ _ _; cases h; rfl
  | cons j l ih =>
    intro s t h hin hrst hfit
    rw [List.length_cons] at h hfit ⊢
    obtain ⟨u, hu, h⟩ := steps_succ_eq_some.1 h
    have hpins : s.pins.rst = false := by
      rw [pins_of_inputs hin]
      exact hrst j List.mem_cons_self
    have htime := step_timeUs hu hpins (by omega)
    have hinputs : u.inputs = l ++ rest := by rw [step_inputs hu, hin]; rfl
    rw [ih h hinputs (fun k hk => hrst k (List.mem_cons_of_mem j hk)) (by rw [step_params hu, htime]; omega), htime]
    omega

/-! ### A state some ticks later -/

/-- `t` has every register of `s` but the clock, and other inputs to come. -/
def Ticked (s t : State) : Prop := t = { s with timeUs := t.timeUs, inputs := t.inputs, draws := t.draws }

theorem Ticked.refl (s : State) : Ticked s s := rfl

/-- The three fields that ticks change, named: what an operation writes can then be read off the record. -/
theorem ticked_iff {s t : State} :
    Ticked s t ↔ ∃ time inputs draws, t = { s with timeUs := time, inputs := inputs, draws := draws } :=
  ⟨fun h => ⟨_, _, _, h⟩, by rintro ⟨time, inputs, draws, rfl⟩; rfl⟩

/-- A tick in which nothing is written. -/
theorem Ticked.advance {s t : State} (h : Ticked s t) : Ticked s t.advance := by
  obtain ⟨_, _, _, rfl⟩ := ticked_iff.1 h
  rfl

/-- A state reached by a run over listed ticks: the ticks are counted and their inputs used up. -/
theorem Ticked.of_steps {s u t : State} {l rest : List Inputs} {i : Inputs} (h : Ticked u t)
    (hsteps : steps (l.length + 1) s = some t) (hin : s.inputs = l ++ i :: rest) :
    t = { u with timeUs := t.timeUs, inputs := rest, draws := s.draws + (l.length + 1) } := by
  have hinputs : t.inputs = rest := by rw [steps_inputs hsteps, hin, List.drop_length_add_append]; rfl
  rw [← hinputs, ← steps_draws hsteps]
  exact h

/-! ### The framer in control -/

/-- R37: outside EXEC the other two sequencers are idle. -/
theorem State.Control.dspTurn {s : State} (h : s.Control) (hdsp : s.dspState ≠ dspEXEC) (hrst : s.pins.rst = false) :
    s.DspTurn := by
  have hsch := h.schIdle hdsp
  exact ⟨⟨h.configured, hrst, h.codes⟩, hsch, h.decIdle (by rw [hsch]; decide)⟩

/-- Outside EXEC R37's discipline is that both other sequencers are idle. -/
theorem control_of_idle {s : State} (hp : s.configured) (hcodes : s.codesLegal = true) (hsch : s.schState = schIDLE)
    (hdec : s.decState = decIDLE) (hdsp : s.dspState ≠ dspEXEC) : s.Control where
  configured := hp
  codes := hcodes
  schedule := by simp [hdsp, hsch]
  attempt := by rw [hsch, hdec]; decide

/-- However the ticks that move a byte (`takes`) are interleaved with stalls: where a stall keeps what `P` says of the ticks still
to move one, and a tick that moves one leaves one fewer, a run over them that ends in such a tick leaves none. -/
theorem steps_interleaved {takes fine : Inputs → Bool} {P : List Inputs → State → Prop}
    (hstall : ∀ s js, s.Control → P js s → js ≠ [] → fine s.pins = true → takes s.pins = false →
      ∃ t, step s = .next t ∧ P js t)
    (htake : ∀ s js, s.Control → P (s.pins :: js) s → fine s.pins = true → takes s.pins = true →
      ∃ t, step s = .next t ∧ P js t)
    {i : Inputs} {rest : List Inputs} (hi : takes i = true) (l : List Inputs) :
    ∀ {s : State}, s.Control → s.inputs = l ++ i :: rest → (∀ j ∈ l ++ [i], fine j = true) →
      P ((l ++ [i]).filter takes) s → ∃ t, steps (l.length + 1) s = some t ∧ P [] t := by
  induction l with
  | nil =>
    intro s hc hin hfine h
    have hpins : s.pins = i := pins_of_inputs hin
    rw [List.nil_append, List.filter_cons_of_pos hi, List.filter_nil, ← hpins] at h
    obtain ⟨t, ht, hend⟩ := htake s [] hc h (hpins ▸ hfine i (by simp)) (hpins ▸ hi)
    exact ⟨t, steps_succ 0 ht, hend⟩
  | cons j l ih =>
    intro s hc hin hfine h
    have hpins : s.pins = j := pins_of_inputs hin
    have hfine' : ∀ k ∈ l ++ [i], fine k = true := fun k hk => hfine k (List.mem_cons_of_mem j hk)
    have hnext : ∃ t, step s = .next t ∧ P ((l ++ [i]).filter takes) t := by
      have hj : fine s.pins = true := hpins ▸ hfine j List.mem_cons_self
      cases htakes : takes j with
      | true =>
        rw [List.cons_append, List.filter_cons_of_pos htakes, ← hpins] at h
        exact htake s _ hc h hj (hpins ▸ htakes)
      | false =>
        rw [List.cons_append, List.filter_cons_of_neg (by simp [htakes])] at h
        exact hstall s _ hc h (List.ne_nil_of_mem (List.mem_filter.2 ⟨by simp, hi⟩)) hj (hpins ▸ htakes)
    obtain ⟨u, hu, h⟩ := hnext
    rw [List.length_cons, steps_succ _ hu]
    exact ih (hc.step hu) (by rw [step_inputs hu, hin]; rfl) hfine' h

end Sys2Proof.Machine
end

section
/-!
SUPPORT. The reassembly of a request frame (43_framer.md R218, R223): each tick that offers a byte takes the next byte of the frame,
and after the last one the state is the one FRAME's meaning gives (log 12).
-/

namespace Sys2Proof.Machine

/-! ### A byte string written byte by byte -/

/-- One byte more of a byte string goes behind the ones written. -/
theorem memWriteRange_append_singleton {size : Nat} {bs : List Byte} {b : Byte} {m' : Memory} :
    ∀ {m : Memory} {i : Nat}, memWriteRange size m i bs = .ok m' →
      memWriteRange size m i (bs ++ [b]) = memWrite size m' (i + bs.length) b := by
  induction bs with
  | nil =>
    intro m i h
    cases h
    rw [List.nil_append, memWriteRange, List.length_nil, Nat.add_zero]
    cases memWrite size m' i b <;> rfl
  | cons c bs ih =>
    intro m i h
    rw [memWriteRange] at h
    rw [List.cons_append, memWriteRange]
    cases hc : memWrite size m i c with
    | error f => rw [hc] at h; cases h
    | ok m1 =>
      rw [hc] at h
      rw [show i + (c :: bs).length = i + 1 + bs.length by rw [List.length_cons]; omega]
      exact ih h

/-! ### The states between two bytes -/

/-- After the first length byte of a payload of n bytes: half of FR_LEN is still the frame before's (R211). -/
def State.frameBegun (s : State) (n : Nat) : State :=
  { s with
    frLen := n / 256 * 256 + s.frLen % 256, hdrCnt := 0, dspState := dspRXHDR1,
    accepted := s.accepted ++ [BitVec.ofNat 8 (n / 256)] }

/-- After the length of n bytes and the payload bytes `done`, RX_BUF being m (R212, R213). -/
def State.frameReceived (s : State) (n : Nat) (done : List Byte) (m : Memory) : State :=
  { s with
    frLen := n, frCnt := done.length, hdrCnt := 0, rxBuf := m, dspState := if n = done.length then dspDECODE else dspRXPAY,
    accepted := s.accepted ++ (lenPrefix 2 n ++ done) }

/-- The bytes to come of the frame of p begun in s, and the state they find, ticks apart. -/
inductive State.Reassembling (s : State) (p : List Byte) : List Byte → State → Prop where
  | start : s.Reassembling p (BitVec.ofNat 8 (p.length / 256) :: BitVec.ofNat 8 p.length :: p) s
  | lowByte : s.Reassembling p (BitVec.ofNat 8 p.length :: p) (s.frameBegun p.length)
  | payload {done rest : List Byte} {m : Memory} (hp : done ++ rest = p)
      (hm : memWriteRange s.params.payloadMax s.rxBuf 0 done = .ok m) :
      s.Reassembling p rest (s.frameReceived p.length done m)

section

variable {s v : State} {p : List Byte} (hlen : s.params.lenBytes = 2)

include hlen

/-- The first length byte (R211). -/
theorem Ticked.takeFirstPrefixByte (hp : p.length ≤ 65535) (h : Ticked s v)
    (hb : v.pins.inByte = BitVec.ofNat 8 (p.length / 256)) :
    Ticked (s.frameBegun p.length) v.takeFirstPrefixByte.advance := by
  have hhigh : v.highPrefix = p.length / 256 * 256 + v.frLen % 256 := by
    have hlen' : v.params.lenBytes = 2 := by rw [h]; exact hlen
    rw [State.highPrefix, hb, hlen', BitVec.toNat_ofNat, Nat.mod_eq_of_lt (by omega)]
    rfl
  obtain ⟨_, _, _, rfl⟩ := ticked_iff.1 h
  rw [State.takeFirstPrefixByte, if_neg (by simp [hlen]), State.keepPrefix, hhigh, State.acceptByte, hb]
  rfl

/-- The second length byte: FR_LEN is complete (R212, R217). -/
theorem Ticked.takeNextPrefixByte (h : Ticked (s.frameBegun p.length) v) (hb : v.pins.inByte = BitVec.ofNat 8 p.length) :
    Ticked (s.frameReceived p.length [] s.rxBuf) v.takeNextPrefixByte.advance := by
  have hleft : v.prefixLeftAfter = 0 := by
    have hlen' : v.params.lenBytes = 2 := by rw [h]; exact hlen
    rw [State.prefixLeftAfter, hlen', Nat.sub_self, Nat.zero_sub]
  have hnext : v.nextPrefix = p.length := by
    have hfr : v.frLen = p.length / 256 * 256 + s.frLen % 256 := by rw [h]; rfl
    rw [State.nextPrefix, hleft, setByte_zero, hb, hfr, BitVec.toNat_ofNat]
    omega
  have hop : v.takeNextPrefixByte = { v with
      frLen := p.length, frCnt := 0, hdrCnt := 0, dspState := if p.length = 0 then dspDECODE else dspRXPAY,
      accepted := v.accepted ++ [BitVec.ofNat 8 p.length] } := by
    rw [State.takeNextPrefixByte, if_pos hleft, hnext, ← hb]
    rfl
  rw [hop]
  obtain ⟨_, _, _, rfl⟩ := ticked_iff.1 h
  simp [Ticked, State.frameReceived, State.frameBegun, State.advance, lenPrefix_two]

end

/-- A payload byte (R213). -/
theorem Ticked.putPayloadByte {s v : State} {n : Nat} {done : List Byte} {b : Byte} {m m' : Memory}
    (h : Ticked (s.frameReceived n done m) v) (hmore : done.length < n) (hb : v.pins.inByte = b) :
    Ticked (s.frameReceived n (done ++ [b]) m') (v.putPayloadByte m').advance := by
  have hop : v.putPayloadByte m' = { v with
      rxBuf := m', frCnt := v.frCnt + 1, dspState := if v.frCnt + 1 = v.frLen then dspDECODE else v.dspState,
      accepted := v.accepted ++ [b] } := by
    rw [State.putPayloadByte, State.acceptByte, hb]
  rw [hop]
  obtain ⟨_, _, _, rfl⟩ := ticked_iff.1 h
  simp [Ticked, State.frameReceived, State.advance, hmore.ne', eq_comm (a := n)]

/-! ### One byte of the frame -/

/-- Where a byte is to come the framer waits for it in an RX state. -/
theorem State.Reassembling.inReady {s X : State} {p bs : List Byte} (h : s.Reassembling p bs X)
    (hdsp : s.dspState = dspRXHDR0) (hmore : bs ≠ []) : X.inReady = true := by
  rw [inReady_iff]
  cases h with
  | start => exact .inl hdsp
  | lowByte => exact .inr (.inl rfl)
  | payload hp hm =>
    have hlt : 0 < bs.length := List.length_pos_iff.2 hmore
    exact .inr (.inr (if_neg (by rw [← hp, List.length_append]; omega)))

/-- A tick that offers the next byte of the frame takes it, whichever of the three operations is its own (R211 to R213). -/
theorem State.Reassembling.step {s X v : State} {p bs : List Byte} {b : Byte} (h : s.Reassembling p (b :: bs) X)
    (hlen : s.params.lenBytes = 2) (hp : p.length ≤ 65535) (hmax : p.length ≤ s.params.payloadMax)
    (hdsp : s.dspState = dspRXHDR0) (hv : Ticked X v) (hturn : v.DspTurn) (herr : v.pins.inErr = false)
    (hvalid : v.pins.inValid = true) (hb : v.pins.inByte = b) :
    ∃ t Y, step v = .next t ∧ s.Reassembling p bs Y ∧ Ticked Y t := by
  cases h with
  | start =>
    have hcode : v.dspState = rxCode .hdr0 := by rw [hv]; exact hdsp
    exact ⟨_, _, hturn.step_rxTake hcode herr hvalid (exec_frRxHdr0 v), .lowByte, hv.takeFirstPrefixByte hlen hp hb⟩
  | lowByte =>
    have hcode : v.dspState = rxCode .hdr1 := by rw [hv]; rfl
    exact ⟨_, _, hturn.step_rxTake hcode herr hvalid (exec_frRxHdr1 v), .payload (List.nil_append p) rfl,
      hv.takeNextPrefixByte hlen hb⟩
  | @payload done _ m hsplit hm =>
    have hmore : done.length < p.length := by rw [← hsplit]; simp
    have hcode : v.dspState = rxCode .pay := by rw [hv]; exact if_neg hmore.ne'
    have hcnt : v.frCnt = done.length := by rw [hv]; rfl
    have hbuf : v.rxBuf = m := by rw [hv]; rfl
    have hparams : v.params = s.params := by rw [hv]; rfl
    have hfits : v.frCnt < v.params.payloadMax := by rw [hcnt, hparams]; omega
    have hwrite : memWriteRange s.params.payloadMax s.rxBuf 0 (done ++ [b]) = .ok (v.rxBuf.write v.frCnt v.pins.inByte) := by
      rw [memWriteRange_append_singleton hm, Nat.zero_add, ← hcnt, ← hbuf, ← hparams, hb]
      exact memWrite_ok.2 ⟨hfits, rfl⟩
    exact ⟨_, _, hturn.step_rxTake hcode herr hvalid (exec_frRxPay hfits),
      .payload (by rw [List.append_assoc]; exact hsplit) hwrite, hv.putPayloadByte hmore hb⟩

/-! ### The whole frame -/

theorem feeds_iff {i : Inputs} : i.feeds = true ↔ i.rst = false ∧ i.inErr = false ∧ i.inEof = false := by
  simp [Inputs.feeds, and_assoc]

/-- The bytes some ticks offer are those of the ticks that offer one. -/
theorem filterMap_offered (l : List Inputs) : l.filterMap Inputs.offered = (l.filter Inputs.inValid).map Inputs.inByte := by
  induction l with
  | nil => rfl
  | cons j l ih =>
    cases h : j.inValid <;> simp [Inputs.offered, h, ih]

/-- `v` waits, some ticks later, for the bytes the ticks `js` offer. -/
def State.Awaits (s : State) (p : List Byte) (js : List Inputs) (v : State) : Prop :=
  ∃ X, s.Reassembling p (js.map Inputs.inByte) X ∧ Ticked X v

section

variable {s v : State} {p : List Byte} {js : List Inputs} (hdsp : s.dspState = dspRXHDR0) (hc : v.Control)
  (hfeeds : v.pins.feeds = true)

include hdsp hc hfeeds

theorem State.Awaits.ready (h : s.Awaits p js v) (hmore : js ≠ []) : v.inReady = true ∧ v.DspTurn := by
  obtain ⟨X, hX, hv⟩ := h
  have hready : v.inReady = true := by
    rw [hv]
    exact hX.inReady hdsp (by simpa using hmore)
  exact ⟨hready, hc.dspTurn (dspState_ne_exec_of_inReady hready) (feeds_iff.1 hfeeds).1⟩

/-- A tick that offers no byte changes nothing but the tick count (R216). -/
theorem State.Awaits.stall (h : s.Awaits p js v) (hmore : js ≠ []) (hvalid : v.pins.inValid = false) :
    ∃ t, step v = .next t ∧ s.Awaits p js t := by
  obtain ⟨-, herr, heof⟩ := feeds_iff.1 hfeeds
  obtain ⟨hready, hturn⟩ := h.ready hdsp hc hfeeds hmore
  obtain ⟨X, hX, hv⟩ := h
  exact ⟨_, hturn.step_rxStall hready herr hvalid heof, X, hX, hv.advance⟩

theorem State.Awaits.take (hlen : s.params.lenBytes = 2) (hp : p.length ≤ 65535) (hmax : p.length ≤ s.params.payloadMax)
    (h : s.Awaits p (v.pins :: js) v) (hvalid : v.pins.inValid = true) : ∃ t, step v = .next t ∧ s.Awaits p js t := by
  obtain ⟨-, herr, -⟩ := feeds_iff.1 hfeeds
  obtain ⟨-, hturn⟩ := h.ready hdsp hc hfeeds (List.cons_ne_nil _ _)
  obtain ⟨X, hX, hv⟩ := h
  obtain ⟨t, Y, ht, hY, hYt⟩ := hX.step hlen hp hmax hdsp hv hturn herr hvalid rfl
  exact ⟨t, ht, Y, hY, hYt⟩

end

/-- After the last byte the whole payload is received. -/
theorem State.Reassembling.eq_frameReceived {s X : State} {p : List Byte} (h : s.Reassembling p [] X) :
    ∃ m, memWriteRange s.params.payloadMax s.rxBuf 0 p = .ok m ∧ X = s.frameReceived p.length p m := by
  generalize hbs : ([] : List Byte) = bs at h
  cases h with
  | start => cases hbs
  | lowByte => cases hbs
  | payload hsplit hm =>
    subst hbs
    rw [List.append_nil] at hsplit
    subst hsplit
    exact ⟨_, hm, rfl⟩

/-- FRAME's meaning is the state after the last byte (log 12). -/
theorem exec_frame {s : State} {p : List Byte} {m : Memory} (hlen : s.params.lenBytes = 2) (hp : p.length ≤ 65535)
    (hm : memWriteRange s.params.payloadMax s.rxBuf 0 p = .ok m) :
    exec (.frame p) s = .next (s.frameReceived p.length p m) := by
  have hfits : p.length < 256 ^ 2 := by omega
  simp only [exec, execFrame, hlen, if_pos hfits, hm, orFault_ok, State.frameReceived, if_true, frameBytes]

/-- A payload written from index 0 up is read there. -/
theorem read_of_memWriteRange {size : Nat} {m m' : Memory} {p : List Byte} (hmax : p.length ≤ size)
    (hm : memWriteRange size m 0 p = .ok m') (k : Nat) (h : k < p.length) : m'.read k = some p[k] := by
  obtain ⟨m1, hm1, hread, -⟩ := memWriteRange_of_le (m := m) (i := 0) (show 0 + p.length ≤ size by omega)
  rw [hm, Except.ok.injEq] at hm1
  rw [hm1, ← hread k h, Nat.zero_add]

/-- Settles O21: a tick of the run stalls or takes the frame's next byte, and after the last byte the state is FRAME's. -/
theorem frameIsReassembled : Obligations.FrameIsReassembled := by
  intro s u p l i rest hlen hp hmax hconf hcodes hsch hdec hdsp hin hfeeds hi hbytes hframe
  have hc : s.Control := control_of_idle hconf hcodes hsch hdec (by rw [hdsp]; decide)
  have hstart : s.Awaits p ((l ++ [i]).filter Inputs.inValid) s := by
    refine ⟨s, ?_, .refl s⟩
    rw [← filterMap_offered, hbytes, frameBytes, lenPrefix_two]
    exact .start
  obtain ⟨t, hsteps, X, hX, ht⟩ := steps_interleaved (fun _ _ hc h hmore hf => h.stall hdsp hc hf hmore)
    (fun _ _ hc h hf => h.take hdsp hc hf hlen hp hmax) hi l hc hin hfeeds hstart
  obtain ⟨m, hm, rfl⟩ := hX.eq_frameReceived
  rw [exec_frame hlen hp hm, Host.Outcome.next.injEq] at hframe
  subst hframe
  have hfr : t.frLen = p.length := by rw [ht]; rfl
  have hcnt : t.frCnt = p.length := by rw [ht]; rfl
  have hbuf : t.rxBuf = m := by rw [ht]; rfl
  refine ⟨t, hsteps, by rw [ht]; exact if_pos rfl, hfr, hcnt.trans hfr.symm, hbuf ▸ read_of_memWriteRange hmax hm,
    ht.of_steps hsteps hin, fun hfit => ?_⟩
  have hticks : (l ++ [i]).length = l.length + 1 := List.length_append
  have htime := steps_timeUs (l := l ++ [i]) (rest := rest) (hticks ▸ hsteps) (by rw [hin, List.append_assoc]; rfl)
    (fun j hj => (feeds_iff.1 (hfeeds j hj)).1) (hticks ▸ hfit)
  rw [htime, hticks]

end Sys2Proof.Machine
end

section
/-!
SUPPORT. The response frame (43_framer.md R219, R222): each tick that takes a byte emits the next one of `write_frame`, and after the
last one the framer is back in RX_HDR0.
-/

namespace Sys2Proof.Machine

theorem frameBytes_length (len : Nat) (q : List Byte) : (frameBytes len q).length = q.length + len := by
  rw [frameBytes, List.length_append, lenPrefix_length, Nat.add_comm]

/-- TX_CNT selects the byte of the response's frame at that index (10_state.md R34). -/
theorem txByte_eq_frameBytes {s : State} {q : List Byte} (hlen : q.length = s.txLen) (hmax : q.length ≤ s.params.txMax)
    (hread : ∀ k (h : k < q.length), s.txBuf.read k = some q[k])
    (hcnt : s.txCnt < (frameBytes s.params.lenBytes q).length) :
    s.txByte = .ok (frameBytes s.params.lenBytes q)[s.txCnt] := by
  rw [State.txByte_ok]
  simp only [frameBytes]
  by_cases hlow : s.txCnt < s.params.lenBytes
  · refine .inl ⟨hlow, ?_⟩
    rw [List.getElem_append_left (by simpa using hlow), ← hlen]
    simp [lenPrefix]
  · have hidx : s.txCnt - s.params.lenBytes < q.length := by rw [frameBytes_length] at hcnt; omega
    refine .inr ⟨by omega, by omega, ?_⟩
    rw [List.getElem_append_right (by simpa using hlow), Memory.byte_of_read (hread _ hidx)]
    simp

/-- The state in TX after n bytes of the response's frame f; after the last one the next command may come (R219). -/
def State.frameSent (s : State) (f : List Byte) (n : Nat) : State :=
  { s with txCnt := n, emitted := s.emitted ++ f.take n, dspState := if n = f.length then dspRXHDR0 else dspTX }

/-- `v` is, some ticks later, in TX with as many bytes of the frame f to send as there are ticks in `js`. -/
def State.Sends (s : State) (f : List Byte) (js : List Inputs) (v : State) : Prop :=
  ∃ n, n + js.length = f.length ∧ Ticked (s.frameSent f n) v

theorem drains_iff {i : Inputs} : i.drains = true ↔ i.rst = false ∧ i.outErr = false := by simp [Inputs.drains]

/-- A byte of the frame handed over (R219). -/
theorem Ticked.emitByte {s v : State} {f : List Byte} {n : Nat} (h : Ticked (s.frameSent f n) v) (hn : n < f.length)
    (hlen : f.length = s.txLen + s.params.lenBytes) : Ticked (s.frameSent f (n + 1)) (v.emitByte f[n]).advance := by
  obtain ⟨_, _, _, rfl⟩ := ticked_iff.1 h
  simp [Ticked, State.frameSent, State.emitByte, State.advance, hn.ne, ← hlen]

section

variable {s v : State} {f : List Byte} {js : List Inputs} (hc : v.Control) (hdrains : v.pins.drains = true)

include hc hdrains

theorem State.Sends.ready (h : s.Sends f js v) (hmore : js ≠ []) : v.dspState = dspTX ∧ v.DspTurn := by
  obtain ⟨n, hn, hv⟩ := h
  have hlt : 0 < js.length := List.length_pos_iff.2 hmore
  have hdsp : v.dspState = dspTX := by rw [hv]; exact if_neg (by omega)
  exact ⟨hdsp, hc.dspTurn (by rw [hdsp]; decide) (drains_iff.1 hdrains).1⟩

/-- A tick that takes no byte changes nothing but the tick count (R220). -/
theorem State.Sends.stall (h : s.Sends f js v) (hmore : js ≠ []) (hready : v.pins.outReady = false) :
    ∃ t, step v = .next t ∧ s.Sends f js t := by
  obtain ⟨hdsp, hturn⟩ := h.ready hc hdrains hmore
  obtain ⟨n, hn, hv⟩ := h
  exact ⟨_, hturn.step_txStall hdsp (drains_iff.1 hdrains).2 hready, n, hn, hv.advance⟩

/-- A tick that takes a byte emits the next one of the frame. -/
theorem State.Sends.emit {q : List Byte} (hf : f = frameBytes s.params.lenBytes q) (hlen : q.length = s.txLen)
    (hmax : q.length ≤ s.params.txMax) (hread : ∀ k (h : k < q.length), s.txBuf.read k = some q[k])
    (h : s.Sends f (v.pins :: js) v) (hready : v.pins.outReady = true) : ∃ t, step v = .next t ∧ s.Sends f js t := by
  obtain ⟨hdsp, hturn⟩ := h.ready hc hdrains (List.cons_ne_nil _ _)
  obtain ⟨n, hn, hv⟩ := h
  rw [List.length_cons] at hn
  have hlt : n < f.length := by omega
  have hb : v.txByte = .ok f[n] := by
    obtain ⟨_, _, _, rfl⟩ := ticked_iff.1 hv
    subst hf
    exact txByte_eq_frameBytes (s := { s.frameSent _ n with timeUs := _, inputs := _, draws := _ }) hlen hmax hread hlt
  exact ⟨_, hturn.step_txByte hdsp (drains_iff.1 hdrains).2 hready hb, n + 1, by omega,
    hv.emitByte hlt (by rw [hf, frameBytes_length, hlen])⟩

end

/-- Before the first byte nothing is sent. -/
theorem frameSent_zero {s : State} {f : List Byte} (hdsp : s.dspState = dspTX) (hcnt : s.txCnt = 0) (hf : 0 < f.length) :
    s.frameSent f 0 = s := by
  rw [State.frameSent, if_neg hf.ne, List.take_zero, List.append_nil, ← hdsp, ← hcnt]

/-- Settles O25: a tick of the run stalls or emits the frame's next byte, and the last one ends TX. -/
theorem responseFrameIsEmitted : Obligations.ResponseFrameIsEmitted := by
  intro s q l i rest hconf hcodes hsch hdec hdsp hcnt hlen hmax hread hin hdrains hi hcount
  have hc : s.Control := control_of_idle hconf hcodes hsch hdec (by rw [hdsp]; decide)
  have hflen := frameBytes_length s.params.lenBytes q
  have hstart : s.Sends (frameBytes s.params.lenBytes q) ((l ++ [i]).filter Inputs.outReady) s := by
    refine ⟨0, by rw [hcount, hflen, Nat.zero_add], ?_⟩
    rw [frameSent_zero hdsp hcnt (by have := lenBytes_pos hconf; omega)]
    exact .refl s
  obtain ⟨t, hsteps, n, hn, ht⟩ := steps_interleaved (fun _ _ hc h hmore hd => h.stall hc hd hmore)
    (fun _ _ hc h hd => h.emit hc hd rfl hlen hmax hread) hi l hc hin hdrains hstart
  refine ⟨t, hsteps, (ht.of_steps hsteps hin).trans ?_⟩
  obtain rfl : n = (frameBytes s.params.lenBytes q).length := hn
  rw [State.frameSent, if_pos rfl, List.take_length, hflen]

end Sys2Proof.Machine
end

section
/-!
SUPPORT. Where each step of the default codec's decode fails and with which cause (44_command_dispatch.md R237 to R243), and the
bound of the timeout it answers (R235, R241).
-/

namespace Sys2Proof.Machine

/-! ### Step 2: the tuple header (R238) -/

theorem decodeTupleHeader_otherTag {b : Byte} (h104 : b ≠ 104#8) (h105 : b ≠ 105#8) (rest : List Byte) :
    decodeTupleHeader (b :: rest) = .error .field := (if_neg h104).trans (if_neg h105)

/-- A long header whose four arity bytes are cut off. -/
theorem decodeTupleHeader_short {r : List Byte} (h : r.length < 4) : decodeTupleHeader (105#8 :: r) = .error .field := by
  match r with
  | [] | [_] | [_, _] | [_, _, _] => rfl
  | _ :: _ :: _ :: _ :: _ => simp at h; omega

/-! ### Step 4: the atom `read` (R240) -/

theorem decodeReadName_truncated {n : Nat} {r : List Byte} (h : r.length < n) : decodeReadName n r = .error .field := if_pos h

theorem decodeReadName_otherName {n : Nat} {name : List Byte} (hlen : name.length = n) (hne : name ≠ nameRead)
    (rest : List Byte) : decodeReadName n (name ++ rest) = .error .atom := by
  have hlong : ¬ (name ++ rest).length < n := by simp [hlen]
  rw [decodeReadName, if_neg hlong, List.take_left' hlen, if_neg hne]

theorem decodeReadAtom_otherTag {b : Byte} (h100 : b ≠ 100#8) (h118 : b ≠ 118#8) (h115 : b ≠ 115#8) (h119 : b ≠ 119#8)
    (rest : List Byte) : decodeReadAtom (b :: rest) = .error .atom :=
  (if_neg (not_or_intro h100 h118)).trans (if_neg (not_or_intro h115 h119))

/-- The tags of an atom whose length has two bytes. -/
theorem decodeReadAtom_wide {b : Byte} (hb : b = 100#8 ∨ b = 118#8) (x y : Byte) (r : List Byte) :
    decodeReadAtom (b :: x :: y :: r) = decodeReadName (be16 x y).toNat r := if_pos hb

theorem decodeReadAtom_wideShort {b : Byte} (hb : b = 100#8 ∨ b = 118#8) {r : List Byte} (h : r.length < 2) :
    decodeReadAtom (b :: r) = .error .field := by
  match r with
  | [] | [_] => exact if_pos hb
  | _ :: _ :: _ => simp at h

/-- The tags of an atom whose length has one byte. -/
theorem decodeReadAtom_narrow {b : Byte} (hb : b = 115#8 ∨ b = 119#8) (x : Byte) (r : List Byte) :
    decodeReadAtom (b :: x :: r) = decodeReadName x.toNat r := by
  rcases hb with rfl | rfl <;> rfl

theorem decodeReadAtom_narrowShort {b : Byte} (hb : b = 115#8 ∨ b = 119#8) : decodeReadAtom [b] = .error .field := by
  rcases hb with rfl | rfl <;> rfl

/-! ### Step 5: the timeout (R241) -/

theorem decodeTimeout_otherTag {b : Byte} (h97 : b ≠ 97#8) (h98 : b ≠ 98#8) (rest : List Byte) :
    decodeTimeout (b :: rest) = .error .field := (if_neg h97).trans (if_neg h98)

theorem decodeTimeout_wordShort {r : List Byte} (h : r.length < 4) : decodeTimeout (98#8 :: r) = .error .field := by
  match r with
  | [] | [_] | [_, _] | [_, _, _] => rfl
  | _ :: _ :: _ :: _ :: _ => simp at h; omega

/-- The sign of a 32-bit integer is the high bit of its first byte. -/
theorem be32_msb {b0 b1 b2 b3 : Byte} : (be32 b0 b1 b2 b3).msb = true ↔ 128 ≤ b0.toNat := by
  rw [BitVec.msb_eq_true_iff_two_mul_ge, be32_toNat]
  omega

theorem decodeTimeout_negative {b0 b1 b2 b3 : Byte} (h : 128 ≤ b0.toNat) (rest : List Byte) :
    decodeTimeout (98#8 :: b0 :: b1 :: b2 :: b3 :: rest) = .error .field := if_pos (be32_msb.2 h)

/-- Both integer forms say at most 2^31 - 1. -/
theorem decodeTimeout_le {r : List Byte} {t : BitVec 32} (h : decodeTimeout r = .ok t) : t.toNat ≤ 2147483647 := by
  unfold decodeTimeout at h
  split at h
  · cases h
  · split at h
    · split at h
      · rename_i b _
        cases h
        have hb := b.isLt
        rw [BitVec.toNat_setWidth]
        omega
      · cases h
    · split at h
      · split at h
        · split at h
          · cases h
          · rename_i hmsb
            cases h
            rw [BitVec.msb_eq_true_iff_two_mul_ge] at hmsb
            omega
        · cases h
      · cases h

/-! ### The steps in order: the first one that fails gives the fault (R243) -/

section

variable {version : Byte} {c : ProtocolFault}

theorem etfDecode_of_error {bytes : List Byte} (h : etfDecodeSteps version bytes = .error c) :
    etfDecode version bytes = .fault c := by rw [etfDecode, h]

theorem etfDecodeSteps_badVersion {bytes : List Byte} (h : decodeVersion version bytes = .error c) :
    etfDecodeSteps version bytes = .error c := by rw [etfDecodeSteps, h]

theorem etfDecodeSteps_badHeader {r : List Byte} (h : decodeTupleHeader r = .error c) :
    etfDecodeSteps version (version :: r) = .error c := by
  simp only [etfDecodeSteps, decodeVersion, if_true, h]

theorem etfDecodeSteps_badArity {n : Nat} {r q : List Byte} (h : decodeTupleHeader r = .ok (n, q)) (hn : n ≠ 2) :
    etfDecodeSteps version (version :: r) = .error .arity := by
  simp only [etfDecodeSteps, decodeVersion, if_true, h, if_neg hn]

theorem etfDecodeSteps_badAtom {h r : List Byte} (hh : h ∈ tupleForms version) (hr : decodeReadAtom r = .error c) :
    etfDecodeSteps version (h ++ r) = .error c := by
  obtain ⟨q, hversion, hheader⟩ := decodeHeader_of_tupleForms hh r
  simp only [etfDecodeSteps, hversion, hheader, if_true, hr]

theorem etfDecodeSteps_badTimeout {h a r : List Byte} (hh : h ∈ tupleForms version) (ha : a ∈ readAtomForms)
    (hr : decodeTimeout r = .error c) : etfDecodeSteps version (h ++ a ++ r) = .error c := by
  rw [List.append_assoc, etfDecodeSteps_of_forms hh ha, hr]

/-- Only the last step answers a timeout. -/
theorem decodeTimeout_of_etfDecodeSteps {bytes : List Byte} {t : BitVec 32} (h : etfDecodeSteps version bytes = .ok t) :
    ∃ r, decodeTimeout r = .ok t := by
  unfold etfDecodeSteps at h
  split at h
  · cases h
  · split at h
    · cases h
    · split at h
      · split at h
        · cases h
        · exact ⟨_, h⟩
      · cases h

theorem etfDecode_read_le {bytes : List Byte} {t : Nat} (h : etfDecode version bytes = .read t) : t ≤ 2147483647 := by
  unfold etfDecode at h
  split at h
  · rename_i u hu
    cases h
    obtain ⟨r, hr⟩ := decodeTimeout_of_etfDecodeSteps hu
    exact decodeTimeout_le hr
  · cases h

end

/-! ### The codec's result -/

/-- The bound of R235 turns no other result into a command (log 17). -/
theorem eq_read_of_boundTimeout {p : Params} {r : Decoded} {t : Nat} (h : boundTimeout p r = .read t) : r = .read t := by
  cases r with
  | read u =>
    simp only [boundTimeout] at h
    split at h
    · exact h
    · cases h
  | fault c => cases h

theorem codecDecode_of_error {p : Params} {bytes : List Byte} {c : ProtocolFault} (hetf : p.codec = .etf)
    (h : etfDecodeSteps p.version bytes = .error c) : codecDecode p bytes = .fault c := by
  simp only [codecDecode, hetf, etfDecode_of_error h, boundTimeout]

end Sys2Proof.Machine
end

section
/-!
SUPPORT. What the default codec's encode writes (44_command_dispatch.md R244 to R246): the sizes of its parts, and that the parts
can be told from the bytes.
-/

namespace Sys2Proof.Machine

theorem two_le_etfInt_length (x : Int) : 2 ≤ (etfInt x).length := by
  unfold etfInt; split <;> simp [bytes32]

theorem etfEncode_ok (version : Byte) (tag : AtomOutTag) (h : Nat) (v : Int) :
    etfEncode version tag (.ok h v) = [version, 104#8, 3#8] ++ etfAtom tag nameOk ++ (etfInt h ++ etfInt v) := by
  simp [etfEncode]

/-- An integer of 32 bits is the beginning of one byte string only, since it can be read back. -/
theorem etfInt_append_inj {x y : Int} {r q : List Byte} (hx : -2147483648 ≤ x ∧ x ≤ 2147483647)
    (hy : -2147483648 ≤ y ∧ y ≤ 2147483647) (h : etfInt x ++ r = etfInt y ++ q) : x = y ∧ r = q := by
  have hsplit := splitInt_etfInt hx.1 hx.2 r
  rw [h, splitInt_etfInt hy.1 hy.2 q, Option.some.injEq, Prod.mk.injEq] at hsplit
  obtain ⟨hword, hrest⟩ := hsplit
  have hval := congrArg BitVec.toInt hword
  rw [BitVec.toInt_ofInt_eq_self (by decide) (by omega) (by omega),
    BitVec.toInt_ofInt_eq_self (by decide) (by omega) (by omega)] at hval
  exact ⟨hval.symm, hrest.symm⟩

/-- An OK response says its humidity and its temperature. -/
theorem etfEncode_ok_inj {version : Byte} {tag : AtomOutTag} {h h' : Nat} {v v' : Int} (hr : (Response.ok h v).inRange)
    (hr' : (Response.ok h' v').inRange) (heq : etfEncode version tag (.ok h v) = etfEncode version tag (.ok h' v')) :
    Response.ok h v = .ok h' v' := by
  simp only [Response.inRange] at hr hr'
  rw [etfEncode_ok, etfEncode_ok, List.append_cancel_left_eq] at heq
  obtain ⟨hhum, hrest⟩ := etfInt_append_inj (by omega) (by omega) heq
  rw [← List.append_nil (etfInt v), ← List.append_nil (etfInt v')] at hrest
  obtain ⟨htemp, -⟩ := etfInt_append_inj (by omega) (by omega) hrest
  rw [Int.ofNat_inj.1 hhum, htemp]

/-- The two kinds of response differ in their arity. -/
theorem etfEncode_ok_ne_timeout (version : Byte) (tag : AtomOutTag) (h : Nat) (v : Int) :
    etfEncode version tag (.ok h v) ≠ etfEncode version tag .timeout := by
  simp [etfEncode]

theorem etfEncode_injective {version : Byte} {tag : AtomOutTag} {r r' : Response} (hr : r.inRange) (hr' : r'.inRange)
    (heq : etfEncode version tag r = etfEncode version tag r') : r = r' := by
  cases r with
  | ok h v =>
    cases r' with
    | ok h' v' => exact etfEncode_ok_inj hr hr' heq
    | timeout => exact absurd heq (etfEncode_ok_ne_timeout _ _ _ _)
  | timeout =>
    cases r' with
    | ok h' v' => exact absurd heq.symm (etfEncode_ok_ne_timeout _ _ _ _)
    | timeout => rfl

end Sys2Proof.Machine
end

section
/-!
SUPPORT. The dispatcher's steps in INIT, DECODE and ENCODE (44_command_dispatch.md R247 to R252), and the runs of HALT (R253).
-/

namespace Sys2Proof.Machine

/-! ### The selected operation -/

theorem decode_dspWord_init {s : State} (h : s.dspState = dspINIT) :
    decode s.dspWord = .ok (if s.pins.initFail then .dspInitFail else .dspInitOk) := by
  rw [decode_dspWord, h]
  rfl

theorem decode_dspWord_encode {s : State} (h : s.dspState = dspENCODE) : decode s.dspWord = .ok .dspEncode := by
  rw [decode_dspWord, h]
  rfl

theorem decode_dspWord_halt {s : State} (h : s.dspState = dspHALT) : decode s.dspWord = .ok .dspHalt := by
  rw [decode_dspWord, h]
  rfl

/-! ### DECODE -/

theorem exec_dspDecodeFault_of_fault {s : State} {c : ProtocolFault} (h : s.codecResult = .ok (.fault c)) :
    exec .dspDecodeFault s = .next (s.raiseFault (.protocol c)) := orFault_next.2 ⟨_, h, rfl⟩

/-- In DECODE a command is started (R249). -/
theorem State.DspTurn.step_command {s : State} {t : Nat} (h : s.DspTurn) (hdsp : s.dspState = dspDECODE)
    (hr : s.codecResult = .ok (.read t)) : step s = .next (s.startRead t).advance := by
  have hsel := decode_dspWord_decode hdsp
  rw [if_pos (hasCommand_iff.2 ⟨t, hr⟩)] at hsel
  exact h.step_next hsel (exec_dspDecodeOk_of_read hr)

/-- In DECODE a payload the codec rejects takes the fault (R250). -/
theorem State.DspTurn.step_badPayload {s : State} {c : ProtocolFault} (h : s.DspTurn) (hdsp : s.dspState = dspDECODE)
    (hr : s.codecResult = .ok (.fault c)) : step s = .next (s.raiseFault (.protocol c)).advance := by
  have hnone : ¬ s.hasCommand = true := fun hcmd => by
    obtain ⟨t, ht⟩ := hasCommand_iff.1 hcmd
    rw [hr] at ht
    cases ht
  have hsel := decode_dspWord_decode hdsp
  rw [if_neg hnone] at hsel
  exact h.step_next hsel (exec_dspDecodeFault_of_fault hr)

/-! ### ENCODE -/

/-- RESP_KIND names the response (R252). -/
theorem response_eq (s : State) : s.response = if s.respKind = .ok then .ok s.resHum.toNat s.resTemp.toInt else .timeout := by
  cases hk : s.respKind <;> simp [State.response, hk]

/-! ### HALT -/

/-- A tick of HALT without a reset is counted and does nothing else. -/
theorem State.Control.step_halt {s : State} (h : s.Control) (hdsp : s.dspState = dspHALT) (hrst : s.pins.rst = false) :
    Machine.step s = .next s.advance :=
  (h.dspTurn (by rw [hdsp]; decide) hrst).step_next (decode_dspWord_halt hdsp) rfl

theorem Ticked.of_advance {s t : State} (h : Ticked s.advance t) : Ticked s t := by
  obtain ⟨_, _, _, rfl⟩ := ticked_iff.1 h
  rfl

/-- Any number of listed ticks of HALT without a reset. -/
theorem State.Control.steps_halt {n : Nat} : ∀ {s : State}, s.Control → s.dspState = dspHALT → n ≤ s.inputs.length →
    (∀ i ∈ s.inputs.take n, i.rst = false) → ∃ t, steps n s = some t ∧ Ticked s t := by
  induction n with
  | zero => intro s _ _ _ _; exact ⟨s, rfl, .refl s⟩
  | succ n ih =>
    intro s hc hdsp hlen hrst
    cases hin : s.inputs with
    | nil => simp [hin] at hlen
    | cons i rest =>
      rw [hin, List.length_cons] at hlen
      rw [hin, List.take_succ_cons] at hrst
      have hpins : s.pins.rst = false := by
        rw [pins_of_inputs hin]
        exact hrst i List.mem_cons_self
      have hrest : s.advance.inputs = rest := by rw [State.advance_inputs, hin, List.tail_cons]
      obtain ⟨t, ht, htick⟩ := ih hc.advance hdsp (by rw [hrest]; omega)
        fun j hj => hrst j (List.mem_cons_of_mem i (hrest ▸ hj))
      exact ⟨t, by rw [steps_succ n (hc.step_halt hdsp hpins), ht], htick.of_advance⟩

end Sys2Proof.Machine
end

section
/-!
SUPPORT. The statements of 44_command_dispatch.md, settled.
-/

namespace Sys2Proof.Machine

/-- Settles O31: the codec's own bound, and under the default profile the bound of its last step. -/
theorem decodedTimeoutIsBounded : Obligations.DecodedTimeoutIsBounded := by
  intro p bytes t h
  refine ⟨codecDecode_read_le h, fun hetf => ?_⟩
  simp only [codecDecode, hetf] at h
  exact etfDecode_read_le (eq_read_of_boundTimeout h)

/-- Settles O34: the default codec's parts can be told from its bytes, and a substituted codec keeps the law by its type. -/
theorem encodeIsInjective : Obligations.EncodeIsInjective := by
  refine fun p => ⟨fun r r' hr hr' heq => ?_, codecEncode_length_le p⟩
  unfold codecEncode at heq
  split at heq
  · exact etfEncode_injective hr hr' heq
  · exact Config.otherCodec.encode_injective r r' hr hr' heq

/-- Settles O56: every tick of the run is one of HALT, and the run's ticks are counted. -/
theorem haltIsTerminal : Obligations.HaltIsTerminal := by
  intro n s hc hdsp hlen hrst
  obtain ⟨t, hsteps, htick⟩ := hc.steps_halt hdsp hlen hrst
  refine ⟨t, hsteps, ?_⟩
  rw [← steps_inputs hsteps, ← steps_draws hsteps]
  exact htick

/-- Settles O13: `init_fail` selects the operation. -/
theorem initEntersTheLoopOrFaults : Obligations.InitEntersTheLoopOrFaults := by
  refine fun s => ⟨rfl, rfl, fun hturn hdsp => ?_⟩
  have hsel := decode_dspWord_init hdsp
  split at hsel <;> rename_i hfail
  · rw [if_pos hfail]; exact hturn.step_next hsel rfl
  · rw [if_neg hfail]; exact hturn.step_next hsel rfl

/-- Settles O23: ENCODE sends the response RESP_KIND names, whatever the codec. -/
theorem encodeBuildsTheResponse : Obligations.EncodeBuildsTheResponse := by
  intro s q hq
  rw [← response_eq] at hq
  obtain ⟨m, hm, hread, hother⟩ := sendResponse_next hq.symm
  exact ⟨_, hm, hread, hother, rfl, fun hturn hdsp => hturn.step_next (decode_dspWord_encode hdsp) hm⟩

/-- Settles O26: the codec's result on the payload is the command, which selects DECODE_OK. -/
theorem readCommandStartsTheScheduler : Obligations.ReadCommandStartsTheScheduler := by
  intro s p t hlen hmax hread hdecode
  have hr : s.codecResult = .ok (.read t) := by rw [codecResult_of_written hlen.symm hmax hread, hdecode]
  exact ⟨exec_dspDecodeOk_of_read hr, fun hturn hdsp => hturn.step_command hdsp hr⟩

/-- Settles O28: the codec's result on the payload is its cause, which selects DECODE_FAULT. -/
theorem badPayloadTakesTheProtocolFault : Obligations.BadPayloadTakesTheProtocolFault := by
  intro s p c hlen hmax hread hdecode
  have hr : s.codecResult = .ok (.fault c) := by rw [codecResult_of_written hlen.symm hmax hread, hdecode]
  refine ⟨causeCode (.protocol c), ?_, exec_dspDecodeFault_of_fault hr, fun hturn hdsp => hturn.step_badPayload hdsp hr⟩
  cases c <;> rfl

/-- Settles O32: each clause is one step's failure, after a header and an atom that pass. -/
theorem firstFailingStepGivesTheCause : Obligations.FirstFailingStepGivesTheCause := by
  intro p h a hetf hh ha
  have hatom : ∀ {r c}, decodeReadAtom r = .error c → codecDecode p (h ++ r) = .fault c :=
    fun hr => codecDecode_of_error hetf (etfDecodeSteps_badAtom hh hr)
  have htimeout : ∀ {r c}, decodeTimeout r = .error c → codecDecode p (h ++ a ++ r) = .fault c :=
    fun hr => codecDecode_of_error hetf (etfDecodeSteps_badTimeout hh ha hr)
  have hheader : ∀ {r c}, decodeTupleHeader r = .error c → codecDecode p (p.version :: r) = .fault c :=
    fun hr => codecDecode_of_error hetf (etfDecodeSteps_badHeader hr)
  have harity : ∀ {n r q}, decodeTupleHeader r = .ok (n, q) → n ≠ 2 → codecDecode p (p.version :: r) = .fault .arity :=
    fun hr hn => codecDecode_of_error hetf (etfDecodeSteps_badArity hr hn)
  refine ⟨⟨?_, ?_⟩, ⟨?_, ?_, ?_, ?_⟩, ⟨?_, ?_⟩, ⟨?_, ?_, ?_, ?_, ?_, ?_, ?_, ?_⟩, ⟨?_, ?_, ?_, ?_, ?_⟩⟩
  -- R237, the version
  · exact codecDecode_of_error hetf (etfDecodeSteps_badVersion rfl)
  · exact fun b rest hb => codecDecode_of_error hetf (etfDecodeSteps_badVersion (if_neg hb))
  -- R238, the tuple header
  · exact hheader rfl
  · exact fun b rest h104 h105 => hheader (decodeTupleHeader_otherTag h104 h105 rest)
  · exact hheader rfl
  · exact fun r hr => hheader (decodeTupleHeader_short hr)
  -- R239, the arity
  · exact fun b rest hb => harity rfl fun hn => hb (BitVec.eq_of_toNat_eq hn)
  · exact fun b0 b1 b2 b3 rest hn => harity rfl hn
  -- R240, the first element
  · simpa using hatom (r := []) rfl
  · exact fun b rest h100 h118 h115 h119 => hatom (decodeReadAtom_otherTag h100 h118 h115 h119 rest)
  · exact fun b r hb hr => hatom (decodeReadAtom_wideShort hb hr)
  · exact fun b hb => hatom (decodeReadAtom_narrowShort hb)
  · exact fun b x y r hb hr => hatom ((decodeReadAtom_wide hb x y r).trans (decodeReadName_truncated hr))
  · exact fun b x r hb hr => hatom ((decodeReadAtom_narrow hb x r).trans (decodeReadName_truncated hr))
  · intro b x y name rest hb hlen hne
    rw [List.append_assoc]
    exact hatom ((decodeReadAtom_wide hb x y _).trans (decodeReadName_otherName hlen hne rest))
  · intro b x name rest hb hlen hne
    rw [List.append_assoc]
    exact hatom ((decodeReadAtom_narrow hb x _).trans (decodeReadName_otherName hlen hne rest))
  -- R241, the second element
  · simpa using htimeout (r := []) rfl
  · exact fun b rest h97 h98 => htimeout (decodeTimeout_otherTag h97 h98 rest)
  · exact htimeout rfl
  · exact fun r hr => htimeout (decodeTimeout_wordShort hr)
  · exact fun b0 b1 b2 b3 rest hneg => htimeout (decodeTimeout_negative hneg rest)

/-- Settles O33: eight bytes before the two integers, each of which has 2 to 5. -/
theorem responseLengths : Obligations.ResponseLengths := by
  intro h v
  have hlen : (codecEncode Params.default (.ok h v)).length = 8 + (etfInt h).length + (etfInt v).length := by
    rw [show codecEncode Params.default (.ok h v) = etfEncode 131#8 .atomExt (.ok h v) from rfl, etfEncode_ok]
    simp [etfAtom, nameOk]
    omega
  have hhlo := two_le_etfInt_length h
  have hhhi := etfInt_length_le h
  have hvlo := two_le_etfInt_length v
  have hvhi := etfInt_length_le v
  exact ⟨by omega, by omega, rfl⟩

end Sys2Proof.Machine
end
